-- ==== Sys2Proof/Word.lean ====
section
/-!
DEFINITION. The word types of the core (10_state.md R21, R27; 20_memory.md R60): a word of 32 bits, a byte of
memory, a halfword of the fetch interface and the 64 raw bits of a floating-point register.
-/

namespace Sys2Proof

/-- A 32-bit word: an integer register, an address, the fetched bits of an instruction (R5, R21). -/
abbrev Word := BitVec 32

/-- One byte of memory (R60). -/
abbrev Byte := BitVec 8

/-- A halfword, the unit of instruction fetch (R65, R100). -/
abbrev Half := BitVec 16

/-- The raw 64 bits of a floating-point register (R27). -/
abbrev DWord := BitVec 64

end Sys2Proof
end

