-- ==== Sys2Proof/Config.lean ====
section
/-!
DEFINITION. The implementation parameters of 00_scope.md R5 and 92_eei_decisions.md ("Open parameters, collected").
The parameter PLATFORM is the pair of fields `map` and `mem` of State. The core leaves no value free, so there
is no opaque constant here (INVENTORY.md, "What the manual leaves open").
-/

namespace Sys2Proof

/-- The condition under which a row of the opcode table exists: the `when` entry of R103. -/
inductive When where
  /-- `always`: the RV32IMA, Zicsr, Zifencei and wfi rows (R102). -/
  | always
  /-- `RV32FD`: the F and D rows. -/
  | rv32fd
  /-- `RV32C`: the integer compressed rows. -/
  | rv32c
  /-- `RV32C and RV32FD`: the eight floating-point compressed rows (R120). -/
  | rv32cAndFd
deriving DecidableEq, Repr

/-- The build-time parameters of one core (R5, D2, D4, D27). No step and no host action changes them (R555 b). -/
structure Config where
  /-- `RV32C`: the compressed instructions are decoded and IALIGN is 2 bytes. -/
  rv32c : Bool
  /-- `RV32FD`: the F and D extensions, the f registers and fcsr exist. -/
  rv32fd : Bool
  /-- `HAS_COUNTER_CSRS` of decision D4: the six counter addresses exist. -/
  hasCounterCsrs : Bool
  /-- `CLOCK_HOST_WRITABLE` of decision D27: the host may write Clock. -/
  clockHostWritable : Bool
  /-- `RESET_PC`, OPEN in R5 and D2. -/
  resetPc : Word
deriving DecidableEq, Repr

namespace Config

/-- The parameters `State.reset` uses. DESIGN CHOICE (log 2, log 3): the spec leaves every one of them to the
platform. -/
def standard : Config where
  rv32c := true
  rv32fd := true
  hasCounterCsrs := true
  clockHostWritable := false
  resetPc := 0x00001000#32

/-- Is a row with this `when` entry decoded under these parameters (R6, R102, R103)? -/
def provides (cfg : Config) : When → Bool
  | .always => true
  | .rv32fd => cfg.rv32fd
  | .rv32c => cfg.rv32c
  | .rv32cAndFd => cfg.rv32c && cfg.rv32fd

/-- IALIGN in bytes (R5, R200): 2 with RV32C, else 4. -/
def ialign (cfg : Config) : Nat :=
  if cfg.rv32c then 2 else 4

end Config

end Sys2Proof
end

