-- ==== Sys2Proof/Syntax.lean ====
section
/-!
DEFINITION. The instructions: one constructor of `Instr` for each of the 154 rows of spec/opcode_table.json (R102),
with the fields of its row as arguments. Register fields are register numbers, immediates hold every bit of the
value R106 or R118 assembles, its fixed low zero bits included (WellFormed.lean checks those).
-/

namespace Sys2Proof

/-- A 5-bit register field that names an integer register (R21, R105). -/
abbrev Reg := Fin 32

/-- A 5-bit register field that names a floating-point register (R27, R105). -/
abbrev FReg := Fin 32

/-- A 3-bit register field of a 16-bit format; it names x(8 + field) (R117, R452). -/
abbrev CReg := Fin 8

/-- A 3-bit register field of a 16-bit format; it names f(8 + field) (R117, R452). -/
abbrev CFReg := Fin 8

/-- The fetched bits of one instruction: a 16-bit halfword or a 32-bit word (R100). -/
inductive Code where
  | half (h : Half)
  | word (w : Word)
deriving DecidableEq, Repr

namespace Code

/-- `raw` of R104: the word, or the halfword zero-extended to 32 bits. -/
def raw : Code → Word
  | .half h => h.setWidth 32
  | .word w => w

/-- `ilen` of R104: the length of the instruction in bytes. -/
def ilen : Code → Word
  | .half _ => 2#32
  | .word _ => 4#32

end Code

/-- One decoded instruction (R103): a row of the opcode table with its field values. -/
inductive Instr where
  -- RV32I integer computational instructions (40_integer.md)
  /-- `lui`, R152. -/
  | lui (rd : Reg) (imm20 : BitVec 20)
  /-- `auipc`, R153. -/
  | auipc (rd : Reg) (imm20 : BitVec 20)
  /-- `addi`, R154. -/
  | addi (rd : Reg) (rs1 : Reg) (imm : BitVec 12)
  /-- `slti`, R155. -/
  | slti (rd : Reg) (rs1 : Reg) (imm : BitVec 12)
  /-- `sltiu`, R156. -/
  | sltiu (rd : Reg) (rs1 : Reg) (imm : BitVec 12)
  /-- `xori`, R157. -/
  | xori (rd : Reg) (rs1 : Reg) (imm : BitVec 12)
  /-- `ori`, R158. -/
  | ori (rd : Reg) (rs1 : Reg) (imm : BitVec 12)
  /-- `andi`, R159. -/
  | andi (rd : Reg) (rs1 : Reg) (imm : BitVec 12)
  /-- `slli`, R160. -/
  | slli (rd : Reg) (rs1 : Reg) (shamt : BitVec 5)
  /-- `srli`, R161. -/
  | srli (rd : Reg) (rs1 : Reg) (shamt : BitVec 5)
  /-- `srai`, R162. -/
  | srai (rd : Reg) (rs1 : Reg) (shamt : BitVec 5)
  /-- `add`, R163. -/
  | add (rd : Reg) (rs1 : Reg) (rs2 : Reg)
  /-- `sub`, R164. -/
  | sub (rd : Reg) (rs1 : Reg) (rs2 : Reg)
  /-- `sll`, R165. -/
  | sll (rd : Reg) (rs1 : Reg) (rs2 : Reg)
  /-- `slt`, R166. -/
  | slt (rd : Reg) (rs1 : Reg) (rs2 : Reg)
  /-- `sltu`, R167. -/
  | sltu (rd : Reg) (rs1 : Reg) (rs2 : Reg)
  /-- `xor`, R168. -/
  | xor (rd : Reg) (rs1 : Reg) (rs2 : Reg)
  /-- `srl`, R169. -/
  | srl (rd : Reg) (rs1 : Reg) (rs2 : Reg)
  /-- `sra`, R170. -/
  | sra (rd : Reg) (rs1 : Reg) (rs2 : Reg)
  /-- `or`, R171. -/
  | or (rd : Reg) (rs1 : Reg) (rs2 : Reg)
  /-- `and`, R172. -/
  | and (rd : Reg) (rs1 : Reg) (rs2 : Reg)
  -- M: multiply and divide (41_m_extension.md)
  /-- `mul`, R191. -/
  | mul (rd : Reg) (rs1 : Reg) (rs2 : Reg)
  /-- `mulh`, R192. -/
  | mulh (rd : Reg) (rs1 : Reg) (rs2 : Reg)
  /-- `mulhsu`, R193. -/
  | mulhsu (rd : Reg) (rs1 : Reg) (rs2 : Reg)
  /-- `mulhu`, R194. -/
  | mulhu (rd : Reg) (rs1 : Reg) (rs2 : Reg)
  /-- `div`, R195. -/
  | div (rd : Reg) (rs1 : Reg) (rs2 : Reg)
  /-- `divu`, R196. -/
  | divu (rd : Reg) (rs1 : Reg) (rs2 : Reg)
  /-- `rem`, R197. -/
  | rem (rd : Reg) (rs1 : Reg) (rs2 : Reg)
  /-- `remu`, R198. -/
  | remu (rd : Reg) (rs1 : Reg) (rs2 : Reg)
  -- Control transfer (42_control_transfer.md)
  /-- `jal`, R203. -/
  | jal (rd : Reg) (imm : BitVec 21)
  /-- `jalr`, R204. -/
  | jalr (rd : Reg) (rs1 : Reg) (imm : BitVec 12)
  /-- `beq`, R205. -/
  | beq (rs1 : Reg) (rs2 : Reg) (imm : BitVec 13)
  /-- `bne`, R206. -/
  | bne (rs1 : Reg) (rs2 : Reg) (imm : BitVec 13)
  /-- `blt`, R207. -/
  | blt (rs1 : Reg) (rs2 : Reg) (imm : BitVec 13)
  /-- `bge`, R208. -/
  | bge (rs1 : Reg) (rs2 : Reg) (imm : BitVec 13)
  /-- `bltu`, R209. -/
  | bltu (rs1 : Reg) (rs2 : Reg) (imm : BitVec 13)
  /-- `bgeu`, R210. -/
  | bgeu (rs1 : Reg) (rs2 : Reg) (imm : BitVec 13)
  -- Integer loads and stores (43_load_store.md)
  /-- `lb`, R223. -/
  | lb (rd : Reg) (rs1 : Reg) (imm : BitVec 12)
  /-- `lh`, R224. -/
  | lh (rd : Reg) (rs1 : Reg) (imm : BitVec 12)
  /-- `lw`, R225. -/
  | lw (rd : Reg) (rs1 : Reg) (imm : BitVec 12)
  /-- `lbu`, R226. -/
  | lbu (rd : Reg) (rs1 : Reg) (imm : BitVec 12)
  /-- `lhu`, R227. -/
  | lhu (rd : Reg) (rs1 : Reg) (imm : BitVec 12)
  /-- `sb`, R228. -/
  | sb (rs1 : Reg) (rs2 : Reg) (imm : BitVec 12)
  /-- `sh`, R229. -/
  | sh (rs1 : Reg) (rs2 : Reg) (imm : BitVec 12)
  /-- `sw`, R230. -/
  | sw (rs1 : Reg) (rs2 : Reg) (imm : BitVec 12)
  -- A: atomic instructions (44_a_extension.md)
  /-- `lr.w`, R244. -/
  | lrW (rd : Reg) (rs1 : Reg) (aq : Bool) (rl : Bool)
  /-- `sc.w`, R245. -/
  | scW (rd : Reg) (rs1 : Reg) (rs2 : Reg) (aq : Bool) (rl : Bool)
  /-- `amoswap.w`, R246. -/
  | amoswapW (rd : Reg) (rs1 : Reg) (rs2 : Reg) (aq : Bool) (rl : Bool)
  /-- `amoadd.w`, R247. -/
  | amoaddW (rd : Reg) (rs1 : Reg) (rs2 : Reg) (aq : Bool) (rl : Bool)
  /-- `amoxor.w`, R248. -/
  | amoxorW (rd : Reg) (rs1 : Reg) (rs2 : Reg) (aq : Bool) (rl : Bool)
  /-- `amoand.w`, R249. -/
  | amoandW (rd : Reg) (rs1 : Reg) (rs2 : Reg) (aq : Bool) (rl : Bool)
  /-- `amoor.w`, R250. -/
  | amoorW (rd : Reg) (rs1 : Reg) (rs2 : Reg) (aq : Bool) (rl : Bool)
  /-- `amomin.w`, R251. -/
  | amominW (rd : Reg) (rs1 : Reg) (rs2 : Reg) (aq : Bool) (rl : Bool)
  /-- `amomax.w`, R252. -/
  | amomaxW (rd : Reg) (rs1 : Reg) (rs2 : Reg) (aq : Bool) (rl : Bool)
  /-- `amominu.w`, R253. -/
  | amominuW (rd : Reg) (rs1 : Reg) (rs2 : Reg) (aq : Bool) (rl : Bool)
  /-- `amomaxu.w`, R254. -/
  | amomaxuW (rd : Reg) (rs1 : Reg) (rs2 : Reg) (aq : Bool) (rl : Bool)
  -- Fences, wait, environment and CSR instructions (45_system_csr.md)
  /-- `fence`, R262. -/
  | fence (fm : BitVec 4) (pred : BitVec 4) (succ : BitVec 4) (rs1 : Reg) (rd : Reg)
  /-- `fence.i`, R263. -/
  | fenceI (imm : BitVec 12) (rs1 : Reg) (rd : Reg)
  /-- `ecall`, R264. -/
  | ecall
  /-- `ebreak`, R265. -/
  | ebreak
  /-- `wfi`, R266. -/
  | wfi
  /-- `csrrw`, R272. -/
  | csrrw (rd : Reg) (csr : BitVec 12) (rs1 : Reg)
  /-- `csrrs`, R273. -/
  | csrrs (rd : Reg) (csr : BitVec 12) (rs1 : Reg)
  /-- `csrrc`, R274. -/
  | csrrc (rd : Reg) (csr : BitVec 12) (rs1 : Reg)
  /-- `csrrwi`, R275. -/
  | csrrwi (rd : Reg) (csr : BitVec 12) (uimm : BitVec 5)
  /-- `csrrsi`, R276. -/
  | csrrsi (rd : Reg) (csr : BitVec 12) (uimm : BitVec 5)
  /-- `csrrci`, R277. -/
  | csrrci (rd : Reg) (csr : BitVec 12) (uimm : BitVec 5)
  -- F: single precision (47_f_single.md)
  /-- `flw`, R374. -/
  | flw (rd : FReg) (rs1 : Reg) (imm : BitVec 12)
  /-- `fsw`, R375. -/
  | fsw (rs1 : Reg) (rs2 : FReg) (imm : BitVec 12)
  /-- `fmadd.s`, R376. -/
  | fmaddS (rd : FReg) (rs1 : FReg) (rs2 : FReg) (rs3 : FReg) (rm : BitVec 3)
  /-- `fmsub.s`, R377. -/
  | fmsubS (rd : FReg) (rs1 : FReg) (rs2 : FReg) (rs3 : FReg) (rm : BitVec 3)
  /-- `fnmsub.s`, R378. -/
  | fnmsubS (rd : FReg) (rs1 : FReg) (rs2 : FReg) (rs3 : FReg) (rm : BitVec 3)
  /-- `fnmadd.s`, R379. -/
  | fnmaddS (rd : FReg) (rs1 : FReg) (rs2 : FReg) (rs3 : FReg) (rm : BitVec 3)
  /-- `fadd.s`, R380. -/
  | faddS (rd : FReg) (rs1 : FReg) (rs2 : FReg) (rm : BitVec 3)
  /-- `fsub.s`, R381. -/
  | fsubS (rd : FReg) (rs1 : FReg) (rs2 : FReg) (rm : BitVec 3)
  /-- `fmul.s`, R382. -/
  | fmulS (rd : FReg) (rs1 : FReg) (rs2 : FReg) (rm : BitVec 3)
  /-- `fdiv.s`, R383. -/
  | fdivS (rd : FReg) (rs1 : FReg) (rs2 : FReg) (rm : BitVec 3)
  /-- `fsqrt.s`, R384. -/
  | fsqrtS (rd : FReg) (rs1 : FReg) (rm : BitVec 3)
  /-- `fsgnj.s`, R385. -/
  | fsgnjS (rd : FReg) (rs1 : FReg) (rs2 : FReg)
  /-- `fsgnjn.s`, R386. -/
  | fsgnjnS (rd : FReg) (rs1 : FReg) (rs2 : FReg)
  /-- `fsgnjx.s`, R387. -/
  | fsgnjxS (rd : FReg) (rs1 : FReg) (rs2 : FReg)
  /-- `fmin.s`, R388. -/
  | fminS (rd : FReg) (rs1 : FReg) (rs2 : FReg)
  /-- `fmax.s`, R389. -/
  | fmaxS (rd : FReg) (rs1 : FReg) (rs2 : FReg)
  /-- `fcvt.w.s`, R390. -/
  | fcvtWS (rd : Reg) (rs1 : FReg) (rm : BitVec 3)
  /-- `fcvt.wu.s`, R391. -/
  | fcvtWuS (rd : Reg) (rs1 : FReg) (rm : BitVec 3)
  /-- `fmv.x.w`, R392. -/
  | fmvXW (rd : Reg) (rs1 : FReg)
  /-- `feq.s`, R393. -/
  | feqS (rd : Reg) (rs1 : FReg) (rs2 : FReg)
  /-- `flt.s`, R394. -/
  | fltS (rd : Reg) (rs1 : FReg) (rs2 : FReg)
  /-- `fle.s`, R395. -/
  | fleS (rd : Reg) (rs1 : FReg) (rs2 : FReg)
  /-- `fclass.s`, R396. -/
  | fclassS (rd : Reg) (rs1 : FReg)
  /-- `fcvt.s.w`, R397. -/
  | fcvtSW (rd : FReg) (rs1 : Reg) (rm : BitVec 3)
  /-- `fcvt.s.wu`, R398. -/
  | fcvtSWu (rd : FReg) (rs1 : Reg) (rm : BitVec 3)
  /-- `fmv.w.x`, R399. -/
  | fmvWX (rd : FReg) (rs1 : Reg)
  -- D: double precision (48_d_double.md)
  /-- `fld`, R412. -/
  | fld (rd : FReg) (rs1 : Reg) (imm : BitVec 12)
  /-- `fsd`, R413. -/
  | fsd (rs1 : Reg) (rs2 : FReg) (imm : BitVec 12)
  /-- `fmadd.d`, R414. -/
  | fmaddD (rd : FReg) (rs1 : FReg) (rs2 : FReg) (rs3 : FReg) (rm : BitVec 3)
  /-- `fmsub.d`, R415. -/
  | fmsubD (rd : FReg) (rs1 : FReg) (rs2 : FReg) (rs3 : FReg) (rm : BitVec 3)
  /-- `fnmsub.d`, R416. -/
  | fnmsubD (rd : FReg) (rs1 : FReg) (rs2 : FReg) (rs3 : FReg) (rm : BitVec 3)
  /-- `fnmadd.d`, R417. -/
  | fnmaddD (rd : FReg) (rs1 : FReg) (rs2 : FReg) (rs3 : FReg) (rm : BitVec 3)
  /-- `fadd.d`, R418. -/
  | faddD (rd : FReg) (rs1 : FReg) (rs2 : FReg) (rm : BitVec 3)
  /-- `fsub.d`, R419. -/
  | fsubD (rd : FReg) (rs1 : FReg) (rs2 : FReg) (rm : BitVec 3)
  /-- `fmul.d`, R420. -/
  | fmulD (rd : FReg) (rs1 : FReg) (rs2 : FReg) (rm : BitVec 3)
  /-- `fdiv.d`, R421. -/
  | fdivD (rd : FReg) (rs1 : FReg) (rs2 : FReg) (rm : BitVec 3)
  /-- `fsqrt.d`, R422. -/
  | fsqrtD (rd : FReg) (rs1 : FReg) (rm : BitVec 3)
  /-- `fsgnj.d`, R423. -/
  | fsgnjD (rd : FReg) (rs1 : FReg) (rs2 : FReg)
  /-- `fsgnjn.d`, R424. -/
  | fsgnjnD (rd : FReg) (rs1 : FReg) (rs2 : FReg)
  /-- `fsgnjx.d`, R425. -/
  | fsgnjxD (rd : FReg) (rs1 : FReg) (rs2 : FReg)
  /-- `fmin.d`, R426. -/
  | fminD (rd : FReg) (rs1 : FReg) (rs2 : FReg)
  /-- `fmax.d`, R427. -/
  | fmaxD (rd : FReg) (rs1 : FReg) (rs2 : FReg)
  /-- `fcvt.s.d`, R428. -/
  | fcvtSD (rd : FReg) (rs1 : FReg) (rm : BitVec 3)
  /-- `fcvt.d.s`, R429. -/
  | fcvtDS (rd : FReg) (rs1 : FReg) (rm : BitVec 3)
  /-- `feq.d`, R430. -/
  | feqD (rd : Reg) (rs1 : FReg) (rs2 : FReg)
  /-- `flt.d`, R431. -/
  | fltD (rd : Reg) (rs1 : FReg) (rs2 : FReg)
  /-- `fle.d`, R432. -/
  | fleD (rd : Reg) (rs1 : FReg) (rs2 : FReg)
  /-- `fclass.d`, R433. -/
  | fclassD (rd : Reg) (rs1 : FReg)
  /-- `fcvt.w.d`, R434. -/
  | fcvtWD (rd : Reg) (rs1 : FReg) (rm : BitVec 3)
  /-- `fcvt.wu.d`, R435. -/
  | fcvtWuD (rd : Reg) (rs1 : FReg) (rm : BitVec 3)
  /-- `fcvt.d.w`, R436. -/
  | fcvtDW (rd : FReg) (rs1 : Reg) (rm : BitVec 3)
  /-- `fcvt.d.wu`, R437. -/
  | fcvtDWu (rd : FReg) (rs1 : Reg) (rm : BitVec 3)
  -- C: compressed instructions (49_c_compressed.md)
  /-- `c.addi4spn`, R455. -/
  | cAddi4spn (rd : CReg) (nzuimm : BitVec 10)
  /-- `c.fld`, R456. -/
  | cFld (rd : CFReg) (rs1 : CReg) (uimm : BitVec 8)
  /-- `c.lw`, R457. -/
  | cLw (rd : CReg) (rs1 : CReg) (uimm : BitVec 7)
  /-- `c.flw`, R458. -/
  | cFlw (rd : CFReg) (rs1 : CReg) (uimm : BitVec 7)
  /-- `c.fsd`, R459. -/
  | cFsd (rs1 : CReg) (rs2 : CFReg) (uimm : BitVec 8)
  /-- `c.sw`, R460. -/
  | cSw (rs1 : CReg) (rs2 : CReg) (uimm : BitVec 7)
  /-- `c.fsw`, R461. -/
  | cFsw (rs1 : CReg) (rs2 : CFReg) (uimm : BitVec 7)
  /-- `c.nop`, R462. -/
  | cNop (imm : BitVec 6)
  /-- `c.addi`, R463. -/
  | cAddi (rd : Reg) (imm : BitVec 6)
  /-- `c.jal`, R464. -/
  | cJal (imm : BitVec 12)
  /-- `c.li`, R465. -/
  | cLi (rd : Reg) (imm : BitVec 6)
  /-- `c.addi16sp`, R466. -/
  | cAddi16sp (nzimm : BitVec 10)
  /-- `c.lui`, R467. -/
  | cLui (rd : Reg) (nzimm : BitVec 18)
  /-- `c.srli`, R468. -/
  | cSrli (rd : CReg) (shamt : BitVec 5)
  /-- `c.srai`, R469. -/
  | cSrai (rd : CReg) (shamt : BitVec 5)
  /-- `c.andi`, R470. -/
  | cAndi (rd : CReg) (imm : BitVec 6)
  /-- `c.sub`, R471. -/
  | cSub (rd : CReg) (rs2 : CReg)
  /-- `c.xor`, R472. -/
  | cXor (rd : CReg) (rs2 : CReg)
  /-- `c.or`, R473. -/
  | cOr (rd : CReg) (rs2 : CReg)
  /-- `c.and`, R474. -/
  | cAnd (rd : CReg) (rs2 : CReg)
  /-- `c.j`, R475. -/
  | cJ (imm : BitVec 12)
  /-- `c.beqz`, R476. -/
  | cBeqz (rs1 : CReg) (imm : BitVec 9)
  /-- `c.bnez`, R477. -/
  | cBnez (rs1 : CReg) (imm : BitVec 9)
  /-- `c.slli`, R478. -/
  | cSlli (rd : Reg) (shamt : BitVec 5)
  /-- `c.fldsp`, R479. -/
  | cFldsp (rd : FReg) (uimm : BitVec 9)
  /-- `c.lwsp`, R480. -/
  | cLwsp (rd : Reg) (uimm : BitVec 8)
  /-- `c.flwsp`, R481. -/
  | cFlwsp (rd : FReg) (uimm : BitVec 8)
  /-- `c.jr`, R482. -/
  | cJr (rs1 : Reg)
  /-- `c.mv`, R483. -/
  | cMv (rd : Reg) (rs2 : Reg)
  /-- `c.ebreak`, R484. -/
  | cEbreak
  /-- `c.jalr`, R485. -/
  | cJalr (rs1 : Reg)
  /-- `c.add`, R486. -/
  | cAdd (rd : Reg) (rs2 : Reg)
  /-- `c.fsdsp`, R487. -/
  | cFsdsp (rs2 : FReg) (uimm : BitVec 9)
  /-- `c.swsp`, R488. -/
  | cSwsp (rs2 : Reg) (uimm : BitVec 8)
  /-- `c.fswsp`, R489. -/
  | cFswsp (rs2 : FReg) (uimm : BitVec 8)
deriving DecidableEq, Repr

end Sys2Proof
end

