-- ==== Sys2Proof/WellFormed.lean ====
section
/-!
DEFINITION. Which terms of `Instr` stand for an encoding: the `require` entries of the nine 16-bit rows that have one
(R103, R121) and the low bits an immediate's format fixes at zero (R106, R118). The types of the fields say the
rest. `Instr.cond` is a row's `when` entry (R103).
-/

namespace Sys2Proof

/-- The immediate is a multiple of `k` (R106, R118: its low bits are fixed at zero). -/
def multipleOf (k : Nat) {n : Nat} (v : BitVec n) : Bool :=
  v.toNat % k == 0

/-- The immediate is not zero (R121). -/
def nonzero {n : Nat} (v : BitVec n) : Bool :=
  v != 0#n

namespace Instr

/-- The instruction has an encoding: it meets its row's `require` entry and its format's immediate. -/
def wellFormed : Instr → Bool
  | .lui _ _ => true
  | .auipc _ _ => true
  | .addi _ _ _ => true
  | .slti _ _ _ => true
  | .sltiu _ _ _ => true
  | .xori _ _ _ => true
  | .ori _ _ _ => true
  | .andi _ _ _ => true
  | .slli _ _ _ => true
  | .srli _ _ _ => true
  | .srai _ _ _ => true
  | .add _ _ _ => true
  | .sub _ _ _ => true
  | .sll _ _ _ => true
  | .slt _ _ _ => true
  | .sltu _ _ _ => true
  | .xor _ _ _ => true
  | .srl _ _ _ => true
  | .sra _ _ _ => true
  | .or _ _ _ => true
  | .and _ _ _ => true
  | .mul _ _ _ => true
  | .mulh _ _ _ => true
  | .mulhsu _ _ _ => true
  | .mulhu _ _ _ => true
  | .div _ _ _ => true
  | .divu _ _ _ => true
  | .rem _ _ _ => true
  | .remu _ _ _ => true
  | .jal _ imm => multipleOf 2 imm
  | .jalr _ _ _ => true
  | .beq _ _ imm => multipleOf 2 imm
  | .bne _ _ imm => multipleOf 2 imm
  | .blt _ _ imm => multipleOf 2 imm
  | .bge _ _ imm => multipleOf 2 imm
  | .bltu _ _ imm => multipleOf 2 imm
  | .bgeu _ _ imm => multipleOf 2 imm
  | .lb _ _ _ => true
  | .lh _ _ _ => true
  | .lw _ _ _ => true
  | .lbu _ _ _ => true
  | .lhu _ _ _ => true
  | .sb _ _ _ => true
  | .sh _ _ _ => true
  | .sw _ _ _ => true
  | .lrW _ _ _ _ => true
  | .scW _ _ _ _ _ => true
  | .amoswapW _ _ _ _ _ => true
  | .amoaddW _ _ _ _ _ => true
  | .amoxorW _ _ _ _ _ => true
  | .amoandW _ _ _ _ _ => true
  | .amoorW _ _ _ _ _ => true
  | .amominW _ _ _ _ _ => true
  | .amomaxW _ _ _ _ _ => true
  | .amominuW _ _ _ _ _ => true
  | .amomaxuW _ _ _ _ _ => true
  | .fence _ _ _ _ _ => true
  | .fenceI _ _ _ => true
  | .ecall => true
  | .ebreak => true
  | .wfi => true
  | .csrrw _ _ _ => true
  | .csrrs _ _ _ => true
  | .csrrc _ _ _ => true
  | .csrrwi _ _ _ => true
  | .csrrsi _ _ _ => true
  | .csrrci _ _ _ => true
  | .flw _ _ _ => true
  | .fsw _ _ _ => true
  | .fmaddS _ _ _ _ _ => true
  | .fmsubS _ _ _ _ _ => true
  | .fnmsubS _ _ _ _ _ => true
  | .fnmaddS _ _ _ _ _ => true
  | .faddS _ _ _ _ => true
  | .fsubS _ _ _ _ => true
  | .fmulS _ _ _ _ => true
  | .fdivS _ _ _ _ => true
  | .fsqrtS _ _ _ => true
  | .fsgnjS _ _ _ => true
  | .fsgnjnS _ _ _ => true
  | .fsgnjxS _ _ _ => true
  | .fminS _ _ _ => true
  | .fmaxS _ _ _ => true
  | .fcvtWS _ _ _ => true
  | .fcvtWuS _ _ _ => true
  | .fmvXW _ _ => true
  | .feqS _ _ _ => true
  | .fltS _ _ _ => true
  | .fleS _ _ _ => true
  | .fclassS _ _ => true
  | .fcvtSW _ _ _ => true
  | .fcvtSWu _ _ _ => true
  | .fmvWX _ _ => true
  | .fld _ _ _ => true
  | .fsd _ _ _ => true
  | .fmaddD _ _ _ _ _ => true
  | .fmsubD _ _ _ _ _ => true
  | .fnmsubD _ _ _ _ _ => true
  | .fnmaddD _ _ _ _ _ => true
  | .faddD _ _ _ _ => true
  | .fsubD _ _ _ _ => true
  | .fmulD _ _ _ _ => true
  | .fdivD _ _ _ _ => true
  | .fsqrtD _ _ _ => true
  | .fsgnjD _ _ _ => true
  | .fsgnjnD _ _ _ => true
  | .fsgnjxD _ _ _ => true
  | .fminD _ _ _ => true
  | .fmaxD _ _ _ => true
  | .fcvtSD _ _ _ => true
  | .fcvtDS _ _ _ => true
  | .feqD _ _ _ => true
  | .fltD _ _ _ => true
  | .fleD _ _ _ => true
  | .fclassD _ _ => true
  | .fcvtWD _ _ _ => true
  | .fcvtWuD _ _ _ => true
  | .fcvtDW _ _ _ => true
  | .fcvtDWu _ _ _ => true
  | .cAddi4spn _ nzuimm => nonzero nzuimm && multipleOf 4 nzuimm
  | .cFld _ _ uimm => multipleOf 8 uimm
  | .cLw _ _ uimm => multipleOf 4 uimm
  | .cFlw _ _ uimm => multipleOf 4 uimm
  | .cFsd _ _ uimm => multipleOf 8 uimm
  | .cSw _ _ uimm => multipleOf 4 uimm
  | .cFsw _ _ uimm => multipleOf 4 uimm
  | .cNop _ => true
  | .cAddi rd _ => rd != 0
  | .cJal imm => multipleOf 2 imm
  | .cLi _ _ => true
  | .cAddi16sp nzimm => nonzero nzimm && multipleOf 16 nzimm
  | .cLui rd nzimm => rd != 2 && nonzero nzimm && multipleOf 4096 nzimm
  | .cSrli _ _ => true
  | .cSrai _ _ => true
  | .cAndi _ _ => true
  | .cSub _ _ => true
  | .cXor _ _ => true
  | .cOr _ _ => true
  | .cAnd _ _ => true
  | .cJ imm => multipleOf 2 imm
  | .cBeqz _ imm => multipleOf 2 imm
  | .cBnez _ imm => multipleOf 2 imm
  | .cSlli _ _ => true
  | .cFldsp _ uimm => multipleOf 8 uimm
  | .cLwsp rd uimm => rd != 0 && multipleOf 4 uimm
  | .cFlwsp _ uimm => multipleOf 4 uimm
  | .cJr rs1 => rs1 != 0
  | .cMv _ rs2 => rs2 != 0
  | .cEbreak => true
  | .cJalr rs1 => rs1 != 0
  | .cAdd _ rs2 => rs2 != 0
  | .cFsdsp _ uimm => multipleOf 8 uimm
  | .cSwsp _ uimm => multipleOf 4 uimm
  | .cFswsp _ uimm => multipleOf 4 uimm

/-- The `when` entry of the instruction's row (R102, R103). -/
def cond : Instr → When
  | .lui _ _ => .always
  | .auipc _ _ => .always
  | .addi _ _ _ => .always
  | .slti _ _ _ => .always
  | .sltiu _ _ _ => .always
  | .xori _ _ _ => .always
  | .ori _ _ _ => .always
  | .andi _ _ _ => .always
  | .slli _ _ _ => .always
  | .srli _ _ _ => .always
  | .srai _ _ _ => .always
  | .add _ _ _ => .always
  | .sub _ _ _ => .always
  | .sll _ _ _ => .always
  | .slt _ _ _ => .always
  | .sltu _ _ _ => .always
  | .xor _ _ _ => .always
  | .srl _ _ _ => .always
  | .sra _ _ _ => .always
  | .or _ _ _ => .always
  | .and _ _ _ => .always
  | .mul _ _ _ => .always
  | .mulh _ _ _ => .always
  | .mulhsu _ _ _ => .always
  | .mulhu _ _ _ => .always
  | .div _ _ _ => .always
  | .divu _ _ _ => .always
  | .rem _ _ _ => .always
  | .remu _ _ _ => .always
  | .jal _ _ => .always
  | .jalr _ _ _ => .always
  | .beq _ _ _ => .always
  | .bne _ _ _ => .always
  | .blt _ _ _ => .always
  | .bge _ _ _ => .always
  | .bltu _ _ _ => .always
  | .bgeu _ _ _ => .always
  | .lb _ _ _ => .always
  | .lh _ _ _ => .always
  | .lw _ _ _ => .always
  | .lbu _ _ _ => .always
  | .lhu _ _ _ => .always
  | .sb _ _ _ => .always
  | .sh _ _ _ => .always
  | .sw _ _ _ => .always
  | .lrW _ _ _ _ => .always
  | .scW _ _ _ _ _ => .always
  | .amoswapW _ _ _ _ _ => .always
  | .amoaddW _ _ _ _ _ => .always
  | .amoxorW _ _ _ _ _ => .always
  | .amoandW _ _ _ _ _ => .always
  | .amoorW _ _ _ _ _ => .always
  | .amominW _ _ _ _ _ => .always
  | .amomaxW _ _ _ _ _ => .always
  | .amominuW _ _ _ _ _ => .always
  | .amomaxuW _ _ _ _ _ => .always
  | .fence _ _ _ _ _ => .always
  | .fenceI _ _ _ => .always
  | .ecall => .always
  | .ebreak => .always
  | .wfi => .always
  | .csrrw _ _ _ => .always
  | .csrrs _ _ _ => .always
  | .csrrc _ _ _ => .always
  | .csrrwi _ _ _ => .always
  | .csrrsi _ _ _ => .always
  | .csrrci _ _ _ => .always
  | .flw _ _ _ => .rv32fd
  | .fsw _ _ _ => .rv32fd
  | .fmaddS _ _ _ _ _ => .rv32fd
  | .fmsubS _ _ _ _ _ => .rv32fd
  | .fnmsubS _ _ _ _ _ => .rv32fd
  | .fnmaddS _ _ _ _ _ => .rv32fd
  | .faddS _ _ _ _ => .rv32fd
  | .fsubS _ _ _ _ => .rv32fd
  | .fmulS _ _ _ _ => .rv32fd
  | .fdivS _ _ _ _ => .rv32fd
  | .fsqrtS _ _ _ => .rv32fd
  | .fsgnjS _ _ _ => .rv32fd
  | .fsgnjnS _ _ _ => .rv32fd
  | .fsgnjxS _ _ _ => .rv32fd
  | .fminS _ _ _ => .rv32fd
  | .fmaxS _ _ _ => .rv32fd
  | .fcvtWS _ _ _ => .rv32fd
  | .fcvtWuS _ _ _ => .rv32fd
  | .fmvXW _ _ => .rv32fd
  | .feqS _ _ _ => .rv32fd
  | .fltS _ _ _ => .rv32fd
  | .fleS _ _ _ => .rv32fd
  | .fclassS _ _ => .rv32fd
  | .fcvtSW _ _ _ => .rv32fd
  | .fcvtSWu _ _ _ => .rv32fd
  | .fmvWX _ _ => .rv32fd
  | .fld _ _ _ => .rv32fd
  | .fsd _ _ _ => .rv32fd
  | .fmaddD _ _ _ _ _ => .rv32fd
  | .fmsubD _ _ _ _ _ => .rv32fd
  | .fnmsubD _ _ _ _ _ => .rv32fd
  | .fnmaddD _ _ _ _ _ => .rv32fd
  | .faddD _ _ _ _ => .rv32fd
  | .fsubD _ _ _ _ => .rv32fd
  | .fmulD _ _ _ _ => .rv32fd
  | .fdivD _ _ _ _ => .rv32fd
  | .fsqrtD _ _ _ => .rv32fd
  | .fsgnjD _ _ _ => .rv32fd
  | .fsgnjnD _ _ _ => .rv32fd
  | .fsgnjxD _ _ _ => .rv32fd
  | .fminD _ _ _ => .rv32fd
  | .fmaxD _ _ _ => .rv32fd
  | .fcvtSD _ _ _ => .rv32fd
  | .fcvtDS _ _ _ => .rv32fd
  | .feqD _ _ _ => .rv32fd
  | .fltD _ _ _ => .rv32fd
  | .fleD _ _ _ => .rv32fd
  | .fclassD _ _ => .rv32fd
  | .fcvtWD _ _ _ => .rv32fd
  | .fcvtWuD _ _ _ => .rv32fd
  | .fcvtDW _ _ _ => .rv32fd
  | .fcvtDWu _ _ _ => .rv32fd
  | .cAddi4spn _ _ => .rv32c
  | .cFld _ _ _ => .rv32cAndFd
  | .cLw _ _ _ => .rv32c
  | .cFlw _ _ _ => .rv32cAndFd
  | .cFsd _ _ _ => .rv32cAndFd
  | .cSw _ _ _ => .rv32c
  | .cFsw _ _ _ => .rv32cAndFd
  | .cNop _ => .rv32c
  | .cAddi _ _ => .rv32c
  | .cJal _ => .rv32c
  | .cLi _ _ => .rv32c
  | .cAddi16sp _ => .rv32c
  | .cLui _ _ => .rv32c
  | .cSrli _ _ => .rv32c
  | .cSrai _ _ => .rv32c
  | .cAndi _ _ => .rv32c
  | .cSub _ _ => .rv32c
  | .cXor _ _ => .rv32c
  | .cOr _ _ => .rv32c
  | .cAnd _ _ => .rv32c
  | .cJ _ => .rv32c
  | .cBeqz _ _ => .rv32c
  | .cBnez _ _ => .rv32c
  | .cSlli _ _ => .rv32c
  | .cFldsp _ _ => .rv32cAndFd
  | .cLwsp _ _ => .rv32c
  | .cFlwsp _ _ => .rv32cAndFd
  | .cJr _ => .rv32c
  | .cMv _ _ => .rv32c
  | .cEbreak => .rv32c
  | .cJalr _ => .rv32c
  | .cAdd _ _ => .rv32c
  | .cFsdsp _ _ => .rv32cAndFd
  | .cSwsp _ _ => .rv32c
  | .cFswsp _ _ => .rv32cAndFd

/-- Does a core with these parameters decode the instruction's row (R6, R102)? -/
def enabled (cfg : Config) (i : Instr) : Bool :=
  cfg.provides i.cond

end Instr

end Sys2Proof
end

