-- ==== Sys2Proof/Decode.lean ====
section
/-!
DEFINITION. Decoding, total on any bits and rejecting by name (R100 to R122), and the encoder written from the same
table. The bit positions are those of R105 to R107, R117 and R118, the rows those of spec/opcode_table.json.
-/

namespace Sys2Proof

/-! ### Fields of a 32-bit word (R105, R106, R107) -/

/-- The five-bit register field whose lowest bit is `lo`. -/
def regField {n : Nat} (w : BitVec n) (lo : Nat) : Fin 32 :=
  (w.extractLsb' lo 5).toFin

/-- The three-bit register field whose lowest bit is `lo`. -/
def smallRegField {n : Nat} (w : BitVec n) (lo : Nat) : Fin 8 :=
  (w.extractLsb' lo 3).toFin

def rdOf (w : Word) : Fin 32 := regField w 7
def rs1Of (w : Word) : Fin 32 := regField w 15
def rs2Of (w : Word) : Fin 32 := regField w 20
def rs3Of (w : Word) : Fin 32 := regField w 27
def rmOf (w : Word) : BitVec 3 := w.extractLsb' 12 3
def shamtOf (w : Word) : BitVec 5 := w.extractLsb' 20 5
def csrOf (w : Word) : BitVec 12 := w.extractLsb' 20 12
def uimmOf (w : Word) : BitVec 5 := w.extractLsb' 15 5
def aqOf (w : Word) : Bool := w.getLsbD 26
def rlOf (w : Word) : Bool := w.getLsbD 25
def fmOf (w : Word) : BitVec 4 := w.extractLsb' 28 4
def predOf (w : Word) : BitVec 4 := w.extractLsb' 24 4
def succOf (w : Word) : BitVec 4 := w.extractLsb' 20 4

/-- The I immediate, `inst[31:20]` (R106). -/
def immI (w : Word) : BitVec 12 := w.extractLsb' 20 12

/-- The S immediate (R106). -/
def immS (w : Word) : BitVec 12 := w.extractLsb' 25 7 ++ w.extractLsb' 7 5

/-- The B immediate (R106). -/
def immB (w : Word) : BitVec 13 :=
  w.extractLsb' 31 1 ++ w.extractLsb' 7 1 ++ w.extractLsb' 25 6 ++ w.extractLsb' 8 4 ++ 0#1

/-- The 20 bits `inst[31:12]` of the U immediate (R106, R123). -/
def immU (w : Word) : BitVec 20 := w.extractLsb' 12 20

/-- The J immediate (R106). -/
def immJ (w : Word) : BitVec 21 :=
  w.extractLsb' 31 1 ++ w.extractLsb' 12 8 ++ w.extractLsb' 20 1 ++ w.extractLsb' 21 10 ++ 0#1

/-! ### Fields of a 16-bit halfword (R117, R118) -/

def cLow3 (h : Half) : Fin 8 := smallRegField h 2
def cMid3 (h : Half) : Fin 8 := smallRegField h 7
def cMid5 (h : Half) : Fin 32 := regField h 7
def cLow5 (h : Half) : Fin 32 := regField h 2

/-- `nzuimm` of `c.addi4spn` (R118). -/
def immCAddi4spn (h : Half) : BitVec 10 :=
  h.extractLsb' 7 4 ++ h.extractLsb' 11 2 ++ h.extractLsb' 5 1 ++ h.extractLsb' 6 1 ++ 0#2

/-- `uimm` of the CL and CS word forms (R118). -/
def immCWord (h : Half) : BitVec 7 :=
  h.extractLsb' 5 1 ++ h.extractLsb' 10 3 ++ h.extractLsb' 6 1 ++ 0#2

/-- `uimm` of the CL and CS double forms (R118). -/
def immCDouble (h : Half) : BitVec 8 :=
  h.extractLsb' 5 2 ++ h.extractLsb' 10 3 ++ 0#3

/-- The six-bit CI immediate (R118). -/
def immCImm6 (h : Half) : BitVec 6 := h.extractLsb' 12 1 ++ h.extractLsb' 2 5

/-- The shift amount of the CI and CB shift forms, whose `inst[12]` is 0 by the row's mask (R118). -/
def immCShamt (h : Half) : BitVec 5 := h.extractLsb' 2 5

/-- `nzimm` of `c.lui` (R118). -/
def immCLui (h : Half) : BitVec 18 := h.extractLsb' 12 1 ++ h.extractLsb' 2 5 ++ 0#12

/-- `nzimm` of `c.addi16sp` (R118). -/
def immCAddi16sp (h : Half) : BitVec 10 :=
  h.extractLsb' 12 1 ++ h.extractLsb' 3 2 ++ h.extractLsb' 5 1 ++ h.extractLsb' 2 1 ++ h.extractLsb' 6 1 ++ 0#4

/-- `uimm` of `c.lwsp` and `c.flwsp` (R118). -/
def immCWordSp (h : Half) : BitVec 8 :=
  h.extractLsb' 2 2 ++ h.extractLsb' 12 1 ++ h.extractLsb' 4 3 ++ 0#2

/-- `uimm` of `c.fldsp` (R118). -/
def immCDoubleSp (h : Half) : BitVec 9 :=
  h.extractLsb' 2 3 ++ h.extractLsb' 12 1 ++ h.extractLsb' 5 2 ++ 0#3

/-- `uimm` of `c.swsp` and `c.fswsp` (R118). -/
def immCStoreWordSp (h : Half) : BitVec 8 := h.extractLsb' 7 2 ++ h.extractLsb' 9 4 ++ 0#2

/-- `uimm` of `c.fsdsp` (R118). -/
def immCStoreDoubleSp (h : Half) : BitVec 9 := h.extractLsb' 7 3 ++ h.extractLsb' 10 3 ++ 0#3

/-- The CJ offset (R118). -/
def immCJump (h : Half) : BitVec 12 :=
  h.extractLsb' 12 1 ++ h.extractLsb' 8 1 ++ h.extractLsb' 9 2 ++ h.extractLsb' 6 1 ++ h.extractLsb' 7 1
    ++ h.extractLsb' 2 1 ++ h.extractLsb' 11 1 ++ h.extractLsb' 3 3 ++ 0#1

/-- The CB offset (R118). -/
def immCBranch (h : Half) : BitVec 9 :=
  h.extractLsb' 12 1 ++ h.extractLsb' 5 2 ++ h.extractLsb' 2 1 ++ h.extractLsb' 10 2 ++ h.extractLsb' 3 2 ++ 0#1

/-! ### The opcode table (R103) -/

/-- One row of spec/opcode_table.json: a word is the row's when its `mask` bits are `value` (the table's `match`) and
no field named in `require` holds its forbidden value; `build` reads the row's fields. -/
structure Row (n : Nat) where
  mask : BitVec n
  value : BitVec n
  /-- Pairs (bits of a field, the value those bits must not hold). -/
  require : List (BitVec n × BitVec n)
  cond : When
  build : BitVec n → Instr

/-- Does the row accept the word (R103), its parameter condition left aside? -/
def Row.accepts {n : Nat} (r : Row n) (w : BitVec n) : Bool :=
  (w &&& r.mask == r.value) && r.require.all fun c => w &&& c.1 != c.2

/-- Opcode rows R152 to R162. -/
def rowsIntegerImm : List (Row 32) := [
  ⟨0x0000007f#32, 0x00000037#32, [], .always, fun w => .lui (rdOf w) (immU w)⟩,
  ⟨0x0000007f#32, 0x00000017#32, [], .always, fun w => .auipc (rdOf w) (immU w)⟩,
  ⟨0x0000707f#32, 0x00000013#32, [], .always, fun w => .addi (rdOf w) (rs1Of w) (immI w)⟩,
  ⟨0x0000707f#32, 0x00002013#32, [], .always, fun w => .slti (rdOf w) (rs1Of w) (immI w)⟩,
  ⟨0x0000707f#32, 0x00003013#32, [], .always, fun w => .sltiu (rdOf w) (rs1Of w) (immI w)⟩,
  ⟨0x0000707f#32, 0x00004013#32, [], .always, fun w => .xori (rdOf w) (rs1Of w) (immI w)⟩,
  ⟨0x0000707f#32, 0x00006013#32, [], .always, fun w => .ori (rdOf w) (rs1Of w) (immI w)⟩,
  ⟨0x0000707f#32, 0x00007013#32, [], .always, fun w => .andi (rdOf w) (rs1Of w) (immI w)⟩,
  ⟨0xfe00707f#32, 0x00001013#32, [], .always, fun w => .slli (rdOf w) (rs1Of w) (shamtOf w)⟩,
  ⟨0xfe00707f#32, 0x00005013#32, [], .always, fun w => .srli (rdOf w) (rs1Of w) (shamtOf w)⟩,
  ⟨0xfe00707f#32, 0x40005013#32, [], .always, fun w => .srai (rdOf w) (rs1Of w) (shamtOf w)⟩]

/-- Opcode rows R163 to R172. -/
def rowsIntegerReg : List (Row 32) := [
  ⟨0xfe00707f#32, 0x00000033#32, [], .always, fun w => .add (rdOf w) (rs1Of w) (rs2Of w)⟩,
  ⟨0xfe00707f#32, 0x40000033#32, [], .always, fun w => .sub (rdOf w) (rs1Of w) (rs2Of w)⟩,
  ⟨0xfe00707f#32, 0x00001033#32, [], .always, fun w => .sll (rdOf w) (rs1Of w) (rs2Of w)⟩,
  ⟨0xfe00707f#32, 0x00002033#32, [], .always, fun w => .slt (rdOf w) (rs1Of w) (rs2Of w)⟩,
  ⟨0xfe00707f#32, 0x00003033#32, [], .always, fun w => .sltu (rdOf w) (rs1Of w) (rs2Of w)⟩,
  ⟨0xfe00707f#32, 0x00004033#32, [], .always, fun w => .xor (rdOf w) (rs1Of w) (rs2Of w)⟩,
  ⟨0xfe00707f#32, 0x00005033#32, [], .always, fun w => .srl (rdOf w) (rs1Of w) (rs2Of w)⟩,
  ⟨0xfe00707f#32, 0x40005033#32, [], .always, fun w => .sra (rdOf w) (rs1Of w) (rs2Of w)⟩,
  ⟨0xfe00707f#32, 0x00006033#32, [], .always, fun w => .or (rdOf w) (rs1Of w) (rs2Of w)⟩,
  ⟨0xfe00707f#32, 0x00007033#32, [], .always, fun w => .and (rdOf w) (rs1Of w) (rs2Of w)⟩]

/-- Opcode rows R191 to R198. -/
def rowsMulDiv : List (Row 32) := [
  ⟨0xfe00707f#32, 0x02000033#32, [], .always, fun w => .mul (rdOf w) (rs1Of w) (rs2Of w)⟩,
  ⟨0xfe00707f#32, 0x02001033#32, [], .always, fun w => .mulh (rdOf w) (rs1Of w) (rs2Of w)⟩,
  ⟨0xfe00707f#32, 0x02002033#32, [], .always, fun w => .mulhsu (rdOf w) (rs1Of w) (rs2Of w)⟩,
  ⟨0xfe00707f#32, 0x02003033#32, [], .always, fun w => .mulhu (rdOf w) (rs1Of w) (rs2Of w)⟩,
  ⟨0xfe00707f#32, 0x02004033#32, [], .always, fun w => .div (rdOf w) (rs1Of w) (rs2Of w)⟩,
  ⟨0xfe00707f#32, 0x02005033#32, [], .always, fun w => .divu (rdOf w) (rs1Of w) (rs2Of w)⟩,
  ⟨0xfe00707f#32, 0x02006033#32, [], .always, fun w => .rem (rdOf w) (rs1Of w) (rs2Of w)⟩,
  ⟨0xfe00707f#32, 0x02007033#32, [], .always, fun w => .remu (rdOf w) (rs1Of w) (rs2Of w)⟩]

/-- Opcode rows R203 to R210. -/
def rowsControl : List (Row 32) := [
  ⟨0x0000007f#32, 0x0000006f#32, [], .always, fun w => .jal (rdOf w) (immJ w)⟩,
  ⟨0x0000707f#32, 0x00000067#32, [], .always, fun w => .jalr (rdOf w) (rs1Of w) (immI w)⟩,
  ⟨0x0000707f#32, 0x00000063#32, [], .always, fun w => .beq (rs1Of w) (rs2Of w) (immB w)⟩,
  ⟨0x0000707f#32, 0x00001063#32, [], .always, fun w => .bne (rs1Of w) (rs2Of w) (immB w)⟩,
  ⟨0x0000707f#32, 0x00004063#32, [], .always, fun w => .blt (rs1Of w) (rs2Of w) (immB w)⟩,
  ⟨0x0000707f#32, 0x00005063#32, [], .always, fun w => .bge (rs1Of w) (rs2Of w) (immB w)⟩,
  ⟨0x0000707f#32, 0x00006063#32, [], .always, fun w => .bltu (rs1Of w) (rs2Of w) (immB w)⟩,
  ⟨0x0000707f#32, 0x00007063#32, [], .always, fun w => .bgeu (rs1Of w) (rs2Of w) (immB w)⟩]

/-- Opcode rows R223 to R230. -/
def rowsLoadStore : List (Row 32) := [
  ⟨0x0000707f#32, 0x00000003#32, [], .always, fun w => .lb (rdOf w) (rs1Of w) (immI w)⟩,
  ⟨0x0000707f#32, 0x00001003#32, [], .always, fun w => .lh (rdOf w) (rs1Of w) (immI w)⟩,
  ⟨0x0000707f#32, 0x00002003#32, [], .always, fun w => .lw (rdOf w) (rs1Of w) (immI w)⟩,
  ⟨0x0000707f#32, 0x00004003#32, [], .always, fun w => .lbu (rdOf w) (rs1Of w) (immI w)⟩,
  ⟨0x0000707f#32, 0x00005003#32, [], .always, fun w => .lhu (rdOf w) (rs1Of w) (immI w)⟩,
  ⟨0x0000707f#32, 0x00000023#32, [], .always, fun w => .sb (rs1Of w) (rs2Of w) (immS w)⟩,
  ⟨0x0000707f#32, 0x00001023#32, [], .always, fun w => .sh (rs1Of w) (rs2Of w) (immS w)⟩,
  ⟨0x0000707f#32, 0x00002023#32, [], .always, fun w => .sw (rs1Of w) (rs2Of w) (immS w)⟩]

/-- Opcode rows R244 to R254. -/
def rowsAtomic : List (Row 32) := [
  ⟨0xf9f0707f#32, 0x1000202f#32, [], .always, fun w => .lrW (rdOf w) (rs1Of w) (aqOf w) (rlOf w)⟩,
  ⟨0xf800707f#32, 0x1800202f#32, [], .always, fun w => .scW (rdOf w) (rs1Of w) (rs2Of w) (aqOf w) (rlOf w)⟩,
  ⟨0xf800707f#32, 0x0800202f#32, [], .always, fun w => .amoswapW (rdOf w) (rs1Of w) (rs2Of w) (aqOf w) (rlOf w)⟩,
  ⟨0xf800707f#32, 0x0000202f#32, [], .always, fun w => .amoaddW (rdOf w) (rs1Of w) (rs2Of w) (aqOf w) (rlOf w)⟩,
  ⟨0xf800707f#32, 0x2000202f#32, [], .always, fun w => .amoxorW (rdOf w) (rs1Of w) (rs2Of w) (aqOf w) (rlOf w)⟩,
  ⟨0xf800707f#32, 0x6000202f#32, [], .always, fun w => .amoandW (rdOf w) (rs1Of w) (rs2Of w) (aqOf w) (rlOf w)⟩,
  ⟨0xf800707f#32, 0x4000202f#32, [], .always, fun w => .amoorW (rdOf w) (rs1Of w) (rs2Of w) (aqOf w) (rlOf w)⟩,
  ⟨0xf800707f#32, 0x8000202f#32, [], .always, fun w => .amominW (rdOf w) (rs1Of w) (rs2Of w) (aqOf w) (rlOf w)⟩,
  ⟨0xf800707f#32, 0xa000202f#32, [], .always, fun w => .amomaxW (rdOf w) (rs1Of w) (rs2Of w) (aqOf w) (rlOf w)⟩,
  ⟨0xf800707f#32, 0xc000202f#32, [], .always, fun w => .amominuW (rdOf w) (rs1Of w) (rs2Of w) (aqOf w) (rlOf w)⟩,
  ⟨0xf800707f#32, 0xe000202f#32, [], .always, fun w => .amomaxuW (rdOf w) (rs1Of w) (rs2Of w) (aqOf w) (rlOf w)⟩]

/-- Opcode rows R262 to R277. -/
def rowsSystem : List (Row 32) := [
  ⟨0x0000707f#32, 0x0000000f#32, [], .always, fun w => .fence (fmOf w) (predOf w) (succOf w) (rs1Of w) (rdOf w)⟩,
  ⟨0x0000707f#32, 0x0000100f#32, [], .always, fun w => .fenceI (immI w) (rs1Of w) (rdOf w)⟩,
  ⟨0xffffffff#32, 0x00000073#32, [], .always, fun _ => .ecall⟩,
  ⟨0xffffffff#32, 0x00100073#32, [], .always, fun _ => .ebreak⟩,
  ⟨0xffffffff#32, 0x10500073#32, [], .always, fun _ => .wfi⟩,
  ⟨0x0000707f#32, 0x00001073#32, [], .always, fun w => .csrrw (rdOf w) (csrOf w) (rs1Of w)⟩,
  ⟨0x0000707f#32, 0x00002073#32, [], .always, fun w => .csrrs (rdOf w) (csrOf w) (rs1Of w)⟩,
  ⟨0x0000707f#32, 0x00003073#32, [], .always, fun w => .csrrc (rdOf w) (csrOf w) (rs1Of w)⟩,
  ⟨0x0000707f#32, 0x00005073#32, [], .always, fun w => .csrrwi (rdOf w) (csrOf w) (uimmOf w)⟩,
  ⟨0x0000707f#32, 0x00006073#32, [], .always, fun w => .csrrsi (rdOf w) (csrOf w) (uimmOf w)⟩,
  ⟨0x0000707f#32, 0x00007073#32, [], .always, fun w => .csrrci (rdOf w) (csrOf w) (uimmOf w)⟩]

/-- Opcode rows R374 to R379. -/
def rowsFFused : List (Row 32) := [
  ⟨0x0000707f#32, 0x00002007#32, [], .rv32fd, fun w => .flw (rdOf w) (rs1Of w) (immI w)⟩,
  ⟨0x0000707f#32, 0x00002027#32, [], .rv32fd, fun w => .fsw (rs1Of w) (rs2Of w) (immS w)⟩,
  ⟨0x0600007f#32, 0x00000043#32, [], .rv32fd, fun w => .fmaddS (rdOf w) (rs1Of w) (rs2Of w) (rs3Of w) (rmOf w)⟩,
  ⟨0x0600007f#32, 0x00000047#32, [], .rv32fd, fun w => .fmsubS (rdOf w) (rs1Of w) (rs2Of w) (rs3Of w) (rmOf w)⟩,
  ⟨0x0600007f#32, 0x0000004b#32, [], .rv32fd, fun w => .fnmsubS (rdOf w) (rs1Of w) (rs2Of w) (rs3Of w) (rmOf w)⟩,
  ⟨0x0600007f#32, 0x0000004f#32, [], .rv32fd, fun w => .fnmaddS (rdOf w) (rs1Of w) (rs2Of w) (rs3Of w) (rmOf w)⟩]

/-- Opcode rows R380 to R389. -/
def rowsFArith : List (Row 32) := [
  ⟨0xfe00007f#32, 0x00000053#32, [], .rv32fd, fun w => .faddS (rdOf w) (rs1Of w) (rs2Of w) (rmOf w)⟩,
  ⟨0xfe00007f#32, 0x08000053#32, [], .rv32fd, fun w => .fsubS (rdOf w) (rs1Of w) (rs2Of w) (rmOf w)⟩,
  ⟨0xfe00007f#32, 0x10000053#32, [], .rv32fd, fun w => .fmulS (rdOf w) (rs1Of w) (rs2Of w) (rmOf w)⟩,
  ⟨0xfe00007f#32, 0x18000053#32, [], .rv32fd, fun w => .fdivS (rdOf w) (rs1Of w) (rs2Of w) (rmOf w)⟩,
  ⟨0xfff0007f#32, 0x58000053#32, [], .rv32fd, fun w => .fsqrtS (rdOf w) (rs1Of w) (rmOf w)⟩,
  ⟨0xfe00707f#32, 0x20000053#32, [], .rv32fd, fun w => .fsgnjS (rdOf w) (rs1Of w) (rs2Of w)⟩,
  ⟨0xfe00707f#32, 0x20001053#32, [], .rv32fd, fun w => .fsgnjnS (rdOf w) (rs1Of w) (rs2Of w)⟩,
  ⟨0xfe00707f#32, 0x20002053#32, [], .rv32fd, fun w => .fsgnjxS (rdOf w) (rs1Of w) (rs2Of w)⟩,
  ⟨0xfe00707f#32, 0x28000053#32, [], .rv32fd, fun w => .fminS (rdOf w) (rs1Of w) (rs2Of w)⟩,
  ⟨0xfe00707f#32, 0x28001053#32, [], .rv32fd, fun w => .fmaxS (rdOf w) (rs1Of w) (rs2Of w)⟩]

/-- Opcode rows R390 to R399. -/
def rowsFConvert : List (Row 32) := [
  ⟨0xfff0007f#32, 0xc0000053#32, [], .rv32fd, fun w => .fcvtWS (rdOf w) (rs1Of w) (rmOf w)⟩,
  ⟨0xfff0007f#32, 0xc0100053#32, [], .rv32fd, fun w => .fcvtWuS (rdOf w) (rs1Of w) (rmOf w)⟩,
  ⟨0xfff0707f#32, 0xe0000053#32, [], .rv32fd, fun w => .fmvXW (rdOf w) (rs1Of w)⟩,
  ⟨0xfe00707f#32, 0xa0002053#32, [], .rv32fd, fun w => .feqS (rdOf w) (rs1Of w) (rs2Of w)⟩,
  ⟨0xfe00707f#32, 0xa0001053#32, [], .rv32fd, fun w => .fltS (rdOf w) (rs1Of w) (rs2Of w)⟩,
  ⟨0xfe00707f#32, 0xa0000053#32, [], .rv32fd, fun w => .fleS (rdOf w) (rs1Of w) (rs2Of w)⟩,
  ⟨0xfff0707f#32, 0xe0001053#32, [], .rv32fd, fun w => .fclassS (rdOf w) (rs1Of w)⟩,
  ⟨0xfff0007f#32, 0xd0000053#32, [], .rv32fd, fun w => .fcvtSW (rdOf w) (rs1Of w) (rmOf w)⟩,
  ⟨0xfff0007f#32, 0xd0100053#32, [], .rv32fd, fun w => .fcvtSWu (rdOf w) (rs1Of w) (rmOf w)⟩,
  ⟨0xfff0707f#32, 0xf0000053#32, [], .rv32fd, fun w => .fmvWX (rdOf w) (rs1Of w)⟩]

/-- Opcode rows R412 to R417. -/
def rowsDFused : List (Row 32) := [
  ⟨0x0000707f#32, 0x00003007#32, [], .rv32fd, fun w => .fld (rdOf w) (rs1Of w) (immI w)⟩,
  ⟨0x0000707f#32, 0x00003027#32, [], .rv32fd, fun w => .fsd (rs1Of w) (rs2Of w) (immS w)⟩,
  ⟨0x0600007f#32, 0x02000043#32, [], .rv32fd, fun w => .fmaddD (rdOf w) (rs1Of w) (rs2Of w) (rs3Of w) (rmOf w)⟩,
  ⟨0x0600007f#32, 0x02000047#32, [], .rv32fd, fun w => .fmsubD (rdOf w) (rs1Of w) (rs2Of w) (rs3Of w) (rmOf w)⟩,
  ⟨0x0600007f#32, 0x0200004b#32, [], .rv32fd, fun w => .fnmsubD (rdOf w) (rs1Of w) (rs2Of w) (rs3Of w) (rmOf w)⟩,
  ⟨0x0600007f#32, 0x0200004f#32, [], .rv32fd, fun w => .fnmaddD (rdOf w) (rs1Of w) (rs2Of w) (rs3Of w) (rmOf w)⟩]

/-- Opcode rows R418 to R427. -/
def rowsDArith : List (Row 32) := [
  ⟨0xfe00007f#32, 0x02000053#32, [], .rv32fd, fun w => .faddD (rdOf w) (rs1Of w) (rs2Of w) (rmOf w)⟩,
  ⟨0xfe00007f#32, 0x0a000053#32, [], .rv32fd, fun w => .fsubD (rdOf w) (rs1Of w) (rs2Of w) (rmOf w)⟩,
  ⟨0xfe00007f#32, 0x12000053#32, [], .rv32fd, fun w => .fmulD (rdOf w) (rs1Of w) (rs2Of w) (rmOf w)⟩,
  ⟨0xfe00007f#32, 0x1a000053#32, [], .rv32fd, fun w => .fdivD (rdOf w) (rs1Of w) (rs2Of w) (rmOf w)⟩,
  ⟨0xfff0007f#32, 0x5a000053#32, [], .rv32fd, fun w => .fsqrtD (rdOf w) (rs1Of w) (rmOf w)⟩,
  ⟨0xfe00707f#32, 0x22000053#32, [], .rv32fd, fun w => .fsgnjD (rdOf w) (rs1Of w) (rs2Of w)⟩,
  ⟨0xfe00707f#32, 0x22001053#32, [], .rv32fd, fun w => .fsgnjnD (rdOf w) (rs1Of w) (rs2Of w)⟩,
  ⟨0xfe00707f#32, 0x22002053#32, [], .rv32fd, fun w => .fsgnjxD (rdOf w) (rs1Of w) (rs2Of w)⟩,
  ⟨0xfe00707f#32, 0x2a000053#32, [], .rv32fd, fun w => .fminD (rdOf w) (rs1Of w) (rs2Of w)⟩,
  ⟨0xfe00707f#32, 0x2a001053#32, [], .rv32fd, fun w => .fmaxD (rdOf w) (rs1Of w) (rs2Of w)⟩]

/-- Opcode rows R428 to R437. -/
def rowsDConvert : List (Row 32) := [
  ⟨0xfff0007f#32, 0x40100053#32, [], .rv32fd, fun w => .fcvtSD (rdOf w) (rs1Of w) (rmOf w)⟩,
  ⟨0xfff0007f#32, 0x42000053#32, [], .rv32fd, fun w => .fcvtDS (rdOf w) (rs1Of w) (rmOf w)⟩,
  ⟨0xfe00707f#32, 0xa2002053#32, [], .rv32fd, fun w => .feqD (rdOf w) (rs1Of w) (rs2Of w)⟩,
  ⟨0xfe00707f#32, 0xa2001053#32, [], .rv32fd, fun w => .fltD (rdOf w) (rs1Of w) (rs2Of w)⟩,
  ⟨0xfe00707f#32, 0xa2000053#32, [], .rv32fd, fun w => .fleD (rdOf w) (rs1Of w) (rs2Of w)⟩,
  ⟨0xfff0707f#32, 0xe2001053#32, [], .rv32fd, fun w => .fclassD (rdOf w) (rs1Of w)⟩,
  ⟨0xfff0007f#32, 0xc2000053#32, [], .rv32fd, fun w => .fcvtWD (rdOf w) (rs1Of w) (rmOf w)⟩,
  ⟨0xfff0007f#32, 0xc2100053#32, [], .rv32fd, fun w => .fcvtWuD (rdOf w) (rs1Of w) (rmOf w)⟩,
  ⟨0xfff0007f#32, 0xd2000053#32, [], .rv32fd, fun w => .fcvtDW (rdOf w) (rs1Of w) (rmOf w)⟩,
  ⟨0xfff0007f#32, 0xd2100053#32, [], .rv32fd, fun w => .fcvtDWu (rdOf w) (rs1Of w) (rmOf w)⟩]

/-- Opcode rows R455 to R461. -/
def rows16Quadrant0 : List (Row 16) := [
  ⟨0xe003#16, 0x0000#16, [(0x1fe0#16, 0x0000#16)], .rv32c, fun h => .cAddi4spn (cLow3 h) (immCAddi4spn h)⟩,
  ⟨0xe003#16, 0x2000#16, [], .rv32cAndFd, fun h => .cFld (cLow3 h) (cMid3 h) (immCDouble h)⟩,
  ⟨0xe003#16, 0x4000#16, [], .rv32c, fun h => .cLw (cLow3 h) (cMid3 h) (immCWord h)⟩,
  ⟨0xe003#16, 0x6000#16, [], .rv32cAndFd, fun h => .cFlw (cLow3 h) (cMid3 h) (immCWord h)⟩,
  ⟨0xe003#16, 0xa000#16, [], .rv32cAndFd, fun h => .cFsd (cMid3 h) (cLow3 h) (immCDouble h)⟩,
  ⟨0xe003#16, 0xc000#16, [], .rv32c, fun h => .cSw (cMid3 h) (cLow3 h) (immCWord h)⟩,
  ⟨0xe003#16, 0xe000#16, [], .rv32cAndFd, fun h => .cFsw (cMid3 h) (cLow3 h) (immCWord h)⟩]

/-- Opcode rows R462 to R477. -/
def rows16Quadrant1 : List (Row 16) := [
  ⟨0xef83#16, 0x0001#16, [], .rv32c, fun h => .cNop (immCImm6 h)⟩,
  ⟨0xe003#16, 0x0001#16, [(0x0f80#16, 0x0000#16)], .rv32c, fun h => .cAddi (cMid5 h) (immCImm6 h)⟩,
  ⟨0xe003#16, 0x2001#16, [], .rv32c, fun h => .cJal (immCJump h)⟩,
  ⟨0xe003#16, 0x4001#16, [], .rv32c, fun h => .cLi (cMid5 h) (immCImm6 h)⟩,
  ⟨0xef83#16, 0x6101#16, [(0x107c#16, 0x0000#16)], .rv32c, fun h => .cAddi16sp (immCAddi16sp h)⟩,
  ⟨0xe003#16, 0x6001#16, [(0x0f80#16, 0x0100#16), (0x107c#16, 0x0000#16)], .rv32c, fun h => .cLui (cMid5 h) (immCLui h)⟩,
  ⟨0xfc03#16, 0x8001#16, [], .rv32c, fun h => .cSrli (cMid3 h) (immCShamt h)⟩,
  ⟨0xfc03#16, 0x8401#16, [], .rv32c, fun h => .cSrai (cMid3 h) (immCShamt h)⟩,
  ⟨0xec03#16, 0x8801#16, [], .rv32c, fun h => .cAndi (cMid3 h) (immCImm6 h)⟩,
  ⟨0xfc63#16, 0x8c01#16, [], .rv32c, fun h => .cSub (cMid3 h) (cLow3 h)⟩,
  ⟨0xfc63#16, 0x8c21#16, [], .rv32c, fun h => .cXor (cMid3 h) (cLow3 h)⟩,
  ⟨0xfc63#16, 0x8c41#16, [], .rv32c, fun h => .cOr (cMid3 h) (cLow3 h)⟩,
  ⟨0xfc63#16, 0x8c61#16, [], .rv32c, fun h => .cAnd (cMid3 h) (cLow3 h)⟩,
  ⟨0xe003#16, 0xa001#16, [], .rv32c, fun h => .cJ (immCJump h)⟩,
  ⟨0xe003#16, 0xc001#16, [], .rv32c, fun h => .cBeqz (cMid3 h) (immCBranch h)⟩,
  ⟨0xe003#16, 0xe001#16, [], .rv32c, fun h => .cBnez (cMid3 h) (immCBranch h)⟩]

/-- Opcode rows R478 to R489. -/
def rows16Quadrant2 : List (Row 16) := [
  ⟨0xf003#16, 0x0002#16, [], .rv32c, fun h => .cSlli (cMid5 h) (immCShamt h)⟩,
  ⟨0xe003#16, 0x2002#16, [], .rv32cAndFd, fun h => .cFldsp (cMid5 h) (immCDoubleSp h)⟩,
  ⟨0xe003#16, 0x4002#16, [(0x0f80#16, 0x0000#16)], .rv32c, fun h => .cLwsp (cMid5 h) (immCWordSp h)⟩,
  ⟨0xe003#16, 0x6002#16, [], .rv32cAndFd, fun h => .cFlwsp (cMid5 h) (immCWordSp h)⟩,
  ⟨0xf07f#16, 0x8002#16, [(0x0f80#16, 0x0000#16)], .rv32c, fun h => .cJr (cMid5 h)⟩,
  ⟨0xf003#16, 0x8002#16, [(0x007c#16, 0x0000#16)], .rv32c, fun h => .cMv (cMid5 h) (cLow5 h)⟩,
  ⟨0xffff#16, 0x9002#16, [], .rv32c, fun _ => .cEbreak⟩,
  ⟨0xf07f#16, 0x9002#16, [(0x0f80#16, 0x0000#16)], .rv32c, fun h => .cJalr (cMid5 h)⟩,
  ⟨0xf003#16, 0x9002#16, [(0x007c#16, 0x0000#16)], .rv32c, fun h => .cAdd (cMid5 h) (cLow5 h)⟩,
  ⟨0xe003#16, 0xa002#16, [], .rv32cAndFd, fun h => .cFsdsp (cLow5 h) (immCStoreDoubleSp h)⟩,
  ⟨0xe003#16, 0xc002#16, [], .rv32c, fun h => .cSwsp (cLow5 h) (immCStoreWordSp h)⟩,
  ⟨0xe003#16, 0xe002#16, [], .rv32cAndFd, fun h => .cFswsp (cLow5 h) (immCStoreWordSp h)⟩]

/-- The 119 rows of 32-bit instructions of spec/opcode_table.json (R102, R103). -/
def rows32 : List (Row 32) :=
  rowsIntegerImm ++ rowsIntegerReg ++ rowsMulDiv ++ rowsControl ++ rowsLoadStore ++ rowsAtomic
    ++ rowsSystem ++ rowsFFused ++ rowsFArith ++ rowsFConvert ++ rowsDFused ++ rowsDArith ++ rowsDConvert

/-- The 35 rows of 16-bit instructions (R102, R119). -/
def rows16 : List (Row 16) :=
  rows16Quadrant0 ++ rows16Quadrant1 ++ rows16Quadrant2

/-! ### Decoding -/

/-- Why bits are no instruction. Every one of the first two becomes the trap `IllegalInstruction(raw)` (R103). -/
inductive DecodeError where
  /-- The bits select no row of the table (R114, R121). -/
  | reserved (raw : Word)
  /-- The row's extension parameter is off (R6, R500 item 4). -/
  | extensionOff (raw : Word)
  /-- A byte string ended before the instruction did; raised by `decodeBytes` only (log 22). -/
  | truncated
deriving DecidableEq, Repr

/-- The row that accepts the bits, as its condition and the instruction it reads. -/
def selectRow : Code → Option (When × Instr)
  | .half h => (rows16.find? fun r => r.accepts h).map fun r => (r.cond, r.build h)
  | .word w => (rows32.find? fun r => r.accepts w).map fun r => (r.cond, r.build w)

/-- The decoder (R103): one row with its field values, or a rejection. -/
def decode (cfg : Config) (c : Code) : Except DecodeError Instr :=
  match selectRow c with
  | none => .error (.reserved c.raw)
  | some (k, i) => if cfg.provides k then .ok i else .error (.extensionOff c.raw)

/-- Is the halfword a whole 16-bit instruction (R101)? Never when RV32C is false. -/
def isCompressed (cfg : Config) (h : Half) : Bool :=
  cfg.rv32c && h.extractLsb' 0 2 != 0b11#2

/-- Decode the instruction that a little-endian byte string starts with (R62, R101), and give the bytes after it. -/
def decodeBytes (cfg : Config) : List Byte → Except DecodeError (Instr × List Byte)
  | b0 :: b1 :: rest =>
    let lo : Half := b1 ++ b0
    if isCompressed cfg lo then
      match decode cfg (.half lo) with
      | .ok i => .ok (i, rest)
      | .error e => .error e
    else
      match rest with
      | b2 :: b3 :: rest' =>
        match decode cfg (.word ((b3 ++ b2 : Half) ++ lo)) with
        | .ok i => .ok (i, rest')
        | .error e => .error e
      | _ => .error .truncated
  | _ => .error .truncated

/-- The four bytes of a word, the one at the lowest address first (R62). -/
def wordBytes (w : Word) : List Byte :=
  [w.extractLsb' 0 8, w.extractLsb' 8 8, w.extractLsb' 16 8, w.extractLsb' 24 8]

/-- What this decoder reads from an instruction whose low `nbits` bits are those of `w` and whose other bits are 0,
laid out in memory as R62 says. -/
def decodeTableWord (nbits w : Nat) : Option Instr :=
  match decodeBytes Config.standard (wordBytes (BitVec.ofNat 32 (w % 2 ^ nbits))) with
  | .ok (i, _) => some i
  | .error _ => none

/-! ### Encoding -/

/-- The field `v` placed with its lowest bit at `lo`. -/
def place {k : Nat} (n lo : Nat) (v : BitVec k) : BitVec n :=
  v.setWidth n <<< lo

/-- A five-bit register field. -/
def regBits (r : Fin 32) : BitVec 5 := BitVec.ofFin r

/-- A three-bit register field. -/
def smallRegBits (r : Fin 8) : BitVec 3 := BitVec.ofFin r

def putRd (r : Fin 32) : Word := place 32 7 (regBits r)
def putRs1 (r : Fin 32) : Word := place 32 15 (regBits r)
def putRs2 (r : Fin 32) : Word := place 32 20 (regBits r)
def putRs3 (r : Fin 32) : Word := place 32 27 (regBits r)
def putRm (rm : BitVec 3) : Word := place 32 12 rm
def putShamt (v : BitVec 5) : Word := place 32 20 v
def putCsr (v : BitVec 12) : Word := place 32 20 v
def putUimm (v : BitVec 5) : Word := place 32 15 v
def putAq (b : Bool) : Word := place 32 26 (BitVec.ofBool b)
def putRl (b : Bool) : Word := place 32 25 (BitVec.ofBool b)
def putFm (v : BitVec 4) : Word := place 32 28 v
def putPred (v : BitVec 4) : Word := place 32 24 v
def putSucc (v : BitVec 4) : Word := place 32 20 v
def putImmI (v : BitVec 12) : Word := place 32 20 v

def putImmS (v : BitVec 12) : Word :=
  place 32 25 (v.extractLsb' 5 7) ||| place 32 7 (v.extractLsb' 0 5)

def putImmB (v : BitVec 13) : Word :=
  place 32 31 (v.extractLsb' 12 1) ||| place 32 7 (v.extractLsb' 11 1)
    ||| place 32 25 (v.extractLsb' 5 6) ||| place 32 8 (v.extractLsb' 1 4)

def putImmU (v : BitVec 20) : Word := place 32 12 v

def putImmJ (v : BitVec 21) : Word :=
  place 32 31 (v.extractLsb' 20 1) ||| place 32 12 (v.extractLsb' 12 8)
    ||| place 32 20 (v.extractLsb' 11 1) ||| place 32 21 (v.extractLsb' 1 10)

def putLow3 (r : Fin 8) : Half := place 16 2 (smallRegBits r)
def putMid3 (r : Fin 8) : Half := place 16 7 (smallRegBits r)
def putMid5 (r : Fin 32) : Half := place 16 7 (regBits r)
def putLow5 (r : Fin 32) : Half := place 16 2 (regBits r)

def putCAddi4spn (v : BitVec 10) : Half :=
  place 16 7 (v.extractLsb' 6 4) ||| place 16 11 (v.extractLsb' 4 2)
    ||| place 16 5 (v.extractLsb' 3 1) ||| place 16 6 (v.extractLsb' 2 1)

def putCWord (v : BitVec 7) : Half :=
  place 16 5 (v.extractLsb' 6 1) ||| place 16 10 (v.extractLsb' 3 3) ||| place 16 6 (v.extractLsb' 2 1)

def putCDouble (v : BitVec 8) : Half :=
  place 16 5 (v.extractLsb' 6 2) ||| place 16 10 (v.extractLsb' 3 3)

def putCImm6 (v : BitVec 6) : Half :=
  place 16 12 (v.extractLsb' 5 1) ||| place 16 2 (v.extractLsb' 0 5)

def putCShamt (v : BitVec 5) : Half := place 16 2 v

def putCLui (v : BitVec 18) : Half :=
  place 16 12 (v.extractLsb' 17 1) ||| place 16 2 (v.extractLsb' 12 5)

def putCAddi16sp (v : BitVec 10) : Half :=
  place 16 12 (v.extractLsb' 9 1) ||| place 16 3 (v.extractLsb' 7 2) ||| place 16 5 (v.extractLsb' 6 1)
    ||| place 16 2 (v.extractLsb' 5 1) ||| place 16 6 (v.extractLsb' 4 1)

def putCWordSp (v : BitVec 8) : Half :=
  place 16 2 (v.extractLsb' 6 2) ||| place 16 12 (v.extractLsb' 5 1) ||| place 16 4 (v.extractLsb' 2 3)

def putCDoubleSp (v : BitVec 9) : Half :=
  place 16 2 (v.extractLsb' 6 3) ||| place 16 12 (v.extractLsb' 5 1) ||| place 16 5 (v.extractLsb' 3 2)

def putCStoreWordSp (v : BitVec 8) : Half :=
  place 16 7 (v.extractLsb' 6 2) ||| place 16 9 (v.extractLsb' 2 4)

def putCStoreDoubleSp (v : BitVec 9) : Half :=
  place 16 7 (v.extractLsb' 6 3) ||| place 16 10 (v.extractLsb' 3 3)

def putCJump (v : BitVec 12) : Half :=
  place 16 12 (v.extractLsb' 11 1) ||| place 16 8 (v.extractLsb' 10 1) ||| place 16 9 (v.extractLsb' 8 2)
    ||| place 16 6 (v.extractLsb' 7 1) ||| place 16 7 (v.extractLsb' 6 1) ||| place 16 2 (v.extractLsb' 5 1)
    ||| place 16 11 (v.extractLsb' 4 1) ||| place 16 3 (v.extractLsb' 1 3)

def putCBranch (v : BitVec 9) : Half :=
  place 16 12 (v.extractLsb' 8 1) ||| place 16 5 (v.extractLsb' 6 2) ||| place 16 2 (v.extractLsb' 5 1)
    ||| place 16 10 (v.extractLsb' 3 2) ||| place 16 3 (v.extractLsb' 1 2)

/-- The encoder: the bits of a well-formed instruction, from the same rows. -/
def encode : Instr → Code
  | .lui rd imm20 => .word (0x00000037#32 ||| putRd rd ||| putImmU imm20)
  | .auipc rd imm20 => .word (0x00000017#32 ||| putRd rd ||| putImmU imm20)
  | .addi rd rs1 imm => .word (0x00000013#32 ||| putRd rd ||| putRs1 rs1 ||| putImmI imm)
  | .slti rd rs1 imm => .word (0x00002013#32 ||| putRd rd ||| putRs1 rs1 ||| putImmI imm)
  | .sltiu rd rs1 imm => .word (0x00003013#32 ||| putRd rd ||| putRs1 rs1 ||| putImmI imm)
  | .xori rd rs1 imm => .word (0x00004013#32 ||| putRd rd ||| putRs1 rs1 ||| putImmI imm)
  | .ori rd rs1 imm => .word (0x00006013#32 ||| putRd rd ||| putRs1 rs1 ||| putImmI imm)
  | .andi rd rs1 imm => .word (0x00007013#32 ||| putRd rd ||| putRs1 rs1 ||| putImmI imm)
  | .slli rd rs1 shamt => .word (0x00001013#32 ||| putRd rd ||| putRs1 rs1 ||| putShamt shamt)
  | .srli rd rs1 shamt => .word (0x00005013#32 ||| putRd rd ||| putRs1 rs1 ||| putShamt shamt)
  | .srai rd rs1 shamt => .word (0x40005013#32 ||| putRd rd ||| putRs1 rs1 ||| putShamt shamt)
  | .add rd rs1 rs2 => .word (0x00000033#32 ||| putRd rd ||| putRs1 rs1 ||| putRs2 rs2)
  | .sub rd rs1 rs2 => .word (0x40000033#32 ||| putRd rd ||| putRs1 rs1 ||| putRs2 rs2)
  | .sll rd rs1 rs2 => .word (0x00001033#32 ||| putRd rd ||| putRs1 rs1 ||| putRs2 rs2)
  | .slt rd rs1 rs2 => .word (0x00002033#32 ||| putRd rd ||| putRs1 rs1 ||| putRs2 rs2)
  | .sltu rd rs1 rs2 => .word (0x00003033#32 ||| putRd rd ||| putRs1 rs1 ||| putRs2 rs2)
  | .xor rd rs1 rs2 => .word (0x00004033#32 ||| putRd rd ||| putRs1 rs1 ||| putRs2 rs2)
  | .srl rd rs1 rs2 => .word (0x00005033#32 ||| putRd rd ||| putRs1 rs1 ||| putRs2 rs2)
  | .sra rd rs1 rs2 => .word (0x40005033#32 ||| putRd rd ||| putRs1 rs1 ||| putRs2 rs2)
  | .or rd rs1 rs2 => .word (0x00006033#32 ||| putRd rd ||| putRs1 rs1 ||| putRs2 rs2)
  | .and rd rs1 rs2 => .word (0x00007033#32 ||| putRd rd ||| putRs1 rs1 ||| putRs2 rs2)
  | .mul rd rs1 rs2 => .word (0x02000033#32 ||| putRd rd ||| putRs1 rs1 ||| putRs2 rs2)
  | .mulh rd rs1 rs2 => .word (0x02001033#32 ||| putRd rd ||| putRs1 rs1 ||| putRs2 rs2)
  | .mulhsu rd rs1 rs2 => .word (0x02002033#32 ||| putRd rd ||| putRs1 rs1 ||| putRs2 rs2)
  | .mulhu rd rs1 rs2 => .word (0x02003033#32 ||| putRd rd ||| putRs1 rs1 ||| putRs2 rs2)
  | .div rd rs1 rs2 => .word (0x02004033#32 ||| putRd rd ||| putRs1 rs1 ||| putRs2 rs2)
  | .divu rd rs1 rs2 => .word (0x02005033#32 ||| putRd rd ||| putRs1 rs1 ||| putRs2 rs2)
  | .rem rd rs1 rs2 => .word (0x02006033#32 ||| putRd rd ||| putRs1 rs1 ||| putRs2 rs2)
  | .remu rd rs1 rs2 => .word (0x02007033#32 ||| putRd rd ||| putRs1 rs1 ||| putRs2 rs2)
  | .jal rd imm => .word (0x0000006f#32 ||| putRd rd ||| putImmJ imm)
  | .jalr rd rs1 imm => .word (0x00000067#32 ||| putRd rd ||| putRs1 rs1 ||| putImmI imm)
  | .beq rs1 rs2 imm => .word (0x00000063#32 ||| putRs1 rs1 ||| putRs2 rs2 ||| putImmB imm)
  | .bne rs1 rs2 imm => .word (0x00001063#32 ||| putRs1 rs1 ||| putRs2 rs2 ||| putImmB imm)
  | .blt rs1 rs2 imm => .word (0x00004063#32 ||| putRs1 rs1 ||| putRs2 rs2 ||| putImmB imm)
  | .bge rs1 rs2 imm => .word (0x00005063#32 ||| putRs1 rs1 ||| putRs2 rs2 ||| putImmB imm)
  | .bltu rs1 rs2 imm => .word (0x00006063#32 ||| putRs1 rs1 ||| putRs2 rs2 ||| putImmB imm)
  | .bgeu rs1 rs2 imm => .word (0x00007063#32 ||| putRs1 rs1 ||| putRs2 rs2 ||| putImmB imm)
  | .lb rd rs1 imm => .word (0x00000003#32 ||| putRd rd ||| putRs1 rs1 ||| putImmI imm)
  | .lh rd rs1 imm => .word (0x00001003#32 ||| putRd rd ||| putRs1 rs1 ||| putImmI imm)
  | .lw rd rs1 imm => .word (0x00002003#32 ||| putRd rd ||| putRs1 rs1 ||| putImmI imm)
  | .lbu rd rs1 imm => .word (0x00004003#32 ||| putRd rd ||| putRs1 rs1 ||| putImmI imm)
  | .lhu rd rs1 imm => .word (0x00005003#32 ||| putRd rd ||| putRs1 rs1 ||| putImmI imm)
  | .sb rs1 rs2 imm => .word (0x00000023#32 ||| putRs1 rs1 ||| putRs2 rs2 ||| putImmS imm)
  | .sh rs1 rs2 imm => .word (0x00001023#32 ||| putRs1 rs1 ||| putRs2 rs2 ||| putImmS imm)
  | .sw rs1 rs2 imm => .word (0x00002023#32 ||| putRs1 rs1 ||| putRs2 rs2 ||| putImmS imm)
  | .lrW rd rs1 aq rl => .word (0x1000202f#32 ||| putRd rd ||| putRs1 rs1 ||| putAq aq ||| putRl rl)
  | .scW rd rs1 rs2 aq rl =>
    .word (0x1800202f#32 ||| putRd rd ||| putRs1 rs1 ||| putRs2 rs2 ||| putAq aq ||| putRl rl)
  | .amoswapW rd rs1 rs2 aq rl =>
    .word (0x0800202f#32 ||| putRd rd ||| putRs1 rs1 ||| putRs2 rs2 ||| putAq aq ||| putRl rl)
  | .amoaddW rd rs1 rs2 aq rl =>
    .word (0x0000202f#32 ||| putRd rd ||| putRs1 rs1 ||| putRs2 rs2 ||| putAq aq ||| putRl rl)
  | .amoxorW rd rs1 rs2 aq rl =>
    .word (0x2000202f#32 ||| putRd rd ||| putRs1 rs1 ||| putRs2 rs2 ||| putAq aq ||| putRl rl)
  | .amoandW rd rs1 rs2 aq rl =>
    .word (0x6000202f#32 ||| putRd rd ||| putRs1 rs1 ||| putRs2 rs2 ||| putAq aq ||| putRl rl)
  | .amoorW rd rs1 rs2 aq rl =>
    .word (0x4000202f#32 ||| putRd rd ||| putRs1 rs1 ||| putRs2 rs2 ||| putAq aq ||| putRl rl)
  | .amominW rd rs1 rs2 aq rl =>
    .word (0x8000202f#32 ||| putRd rd ||| putRs1 rs1 ||| putRs2 rs2 ||| putAq aq ||| putRl rl)
  | .amomaxW rd rs1 rs2 aq rl =>
    .word (0xa000202f#32 ||| putRd rd ||| putRs1 rs1 ||| putRs2 rs2 ||| putAq aq ||| putRl rl)
  | .amominuW rd rs1 rs2 aq rl =>
    .word (0xc000202f#32 ||| putRd rd ||| putRs1 rs1 ||| putRs2 rs2 ||| putAq aq ||| putRl rl)
  | .amomaxuW rd rs1 rs2 aq rl =>
    .word (0xe000202f#32 ||| putRd rd ||| putRs1 rs1 ||| putRs2 rs2 ||| putAq aq ||| putRl rl)
  | .fence fm pred succ rs1 rd =>
    .word (0x0000000f#32 ||| putFm fm ||| putPred pred ||| putSucc succ ||| putRs1 rs1 ||| putRd rd)
  | .fenceI imm rs1 rd => .word (0x0000100f#32 ||| putImmI imm ||| putRs1 rs1 ||| putRd rd)
  | .ecall => .word (0x00000073#32)
  | .ebreak => .word (0x00100073#32)
  | .wfi => .word (0x10500073#32)
  | .csrrw rd csr rs1 => .word (0x00001073#32 ||| putRd rd ||| putCsr csr ||| putRs1 rs1)
  | .csrrs rd csr rs1 => .word (0x00002073#32 ||| putRd rd ||| putCsr csr ||| putRs1 rs1)
  | .csrrc rd csr rs1 => .word (0x00003073#32 ||| putRd rd ||| putCsr csr ||| putRs1 rs1)
  | .csrrwi rd csr uimm => .word (0x00005073#32 ||| putRd rd ||| putCsr csr ||| putUimm uimm)
  | .csrrsi rd csr uimm => .word (0x00006073#32 ||| putRd rd ||| putCsr csr ||| putUimm uimm)
  | .csrrci rd csr uimm => .word (0x00007073#32 ||| putRd rd ||| putCsr csr ||| putUimm uimm)
  | .flw rd rs1 imm => .word (0x00002007#32 ||| putRd rd ||| putRs1 rs1 ||| putImmI imm)
  | .fsw rs1 rs2 imm => .word (0x00002027#32 ||| putRs1 rs1 ||| putRs2 rs2 ||| putImmS imm)
  | .fmaddS rd rs1 rs2 rs3 rm =>
    .word (0x00000043#32 ||| putRd rd ||| putRs1 rs1 ||| putRs2 rs2 ||| putRs3 rs3 ||| putRm rm)
  | .fmsubS rd rs1 rs2 rs3 rm =>
    .word (0x00000047#32 ||| putRd rd ||| putRs1 rs1 ||| putRs2 rs2 ||| putRs3 rs3 ||| putRm rm)
  | .fnmsubS rd rs1 rs2 rs3 rm =>
    .word (0x0000004b#32 ||| putRd rd ||| putRs1 rs1 ||| putRs2 rs2 ||| putRs3 rs3 ||| putRm rm)
  | .fnmaddS rd rs1 rs2 rs3 rm =>
    .word (0x0000004f#32 ||| putRd rd ||| putRs1 rs1 ||| putRs2 rs2 ||| putRs3 rs3 ||| putRm rm)
  | .faddS rd rs1 rs2 rm => .word (0x00000053#32 ||| putRd rd ||| putRs1 rs1 ||| putRs2 rs2 ||| putRm rm)
  | .fsubS rd rs1 rs2 rm => .word (0x08000053#32 ||| putRd rd ||| putRs1 rs1 ||| putRs2 rs2 ||| putRm rm)
  | .fmulS rd rs1 rs2 rm => .word (0x10000053#32 ||| putRd rd ||| putRs1 rs1 ||| putRs2 rs2 ||| putRm rm)
  | .fdivS rd rs1 rs2 rm => .word (0x18000053#32 ||| putRd rd ||| putRs1 rs1 ||| putRs2 rs2 ||| putRm rm)
  | .fsqrtS rd rs1 rm => .word (0x58000053#32 ||| putRd rd ||| putRs1 rs1 ||| putRm rm)
  | .fsgnjS rd rs1 rs2 => .word (0x20000053#32 ||| putRd rd ||| putRs1 rs1 ||| putRs2 rs2)
  | .fsgnjnS rd rs1 rs2 => .word (0x20001053#32 ||| putRd rd ||| putRs1 rs1 ||| putRs2 rs2)
  | .fsgnjxS rd rs1 rs2 => .word (0x20002053#32 ||| putRd rd ||| putRs1 rs1 ||| putRs2 rs2)
  | .fminS rd rs1 rs2 => .word (0x28000053#32 ||| putRd rd ||| putRs1 rs1 ||| putRs2 rs2)
  | .fmaxS rd rs1 rs2 => .word (0x28001053#32 ||| putRd rd ||| putRs1 rs1 ||| putRs2 rs2)
  | .fcvtWS rd rs1 rm => .word (0xc0000053#32 ||| putRd rd ||| putRs1 rs1 ||| putRm rm)
  | .fcvtWuS rd rs1 rm => .word (0xc0100053#32 ||| putRd rd ||| putRs1 rs1 ||| putRm rm)
  | .fmvXW rd rs1 => .word (0xe0000053#32 ||| putRd rd ||| putRs1 rs1)
  | .feqS rd rs1 rs2 => .word (0xa0002053#32 ||| putRd rd ||| putRs1 rs1 ||| putRs2 rs2)
  | .fltS rd rs1 rs2 => .word (0xa0001053#32 ||| putRd rd ||| putRs1 rs1 ||| putRs2 rs2)
  | .fleS rd rs1 rs2 => .word (0xa0000053#32 ||| putRd rd ||| putRs1 rs1 ||| putRs2 rs2)
  | .fclassS rd rs1 => .word (0xe0001053#32 ||| putRd rd ||| putRs1 rs1)
  | .fcvtSW rd rs1 rm => .word (0xd0000053#32 ||| putRd rd ||| putRs1 rs1 ||| putRm rm)
  | .fcvtSWu rd rs1 rm => .word (0xd0100053#32 ||| putRd rd ||| putRs1 rs1 ||| putRm rm)
  | .fmvWX rd rs1 => .word (0xf0000053#32 ||| putRd rd ||| putRs1 rs1)
  | .fld rd rs1 imm => .word (0x00003007#32 ||| putRd rd ||| putRs1 rs1 ||| putImmI imm)
  | .fsd rs1 rs2 imm => .word (0x00003027#32 ||| putRs1 rs1 ||| putRs2 rs2 ||| putImmS imm)
  | .fmaddD rd rs1 rs2 rs3 rm =>
    .word (0x02000043#32 ||| putRd rd ||| putRs1 rs1 ||| putRs2 rs2 ||| putRs3 rs3 ||| putRm rm)
  | .fmsubD rd rs1 rs2 rs3 rm =>
    .word (0x02000047#32 ||| putRd rd ||| putRs1 rs1 ||| putRs2 rs2 ||| putRs3 rs3 ||| putRm rm)
  | .fnmsubD rd rs1 rs2 rs3 rm =>
    .word (0x0200004b#32 ||| putRd rd ||| putRs1 rs1 ||| putRs2 rs2 ||| putRs3 rs3 ||| putRm rm)
  | .fnmaddD rd rs1 rs2 rs3 rm =>
    .word (0x0200004f#32 ||| putRd rd ||| putRs1 rs1 ||| putRs2 rs2 ||| putRs3 rs3 ||| putRm rm)
  | .faddD rd rs1 rs2 rm => .word (0x02000053#32 ||| putRd rd ||| putRs1 rs1 ||| putRs2 rs2 ||| putRm rm)
  | .fsubD rd rs1 rs2 rm => .word (0x0a000053#32 ||| putRd rd ||| putRs1 rs1 ||| putRs2 rs2 ||| putRm rm)
  | .fmulD rd rs1 rs2 rm => .word (0x12000053#32 ||| putRd rd ||| putRs1 rs1 ||| putRs2 rs2 ||| putRm rm)
  | .fdivD rd rs1 rs2 rm => .word (0x1a000053#32 ||| putRd rd ||| putRs1 rs1 ||| putRs2 rs2 ||| putRm rm)
  | .fsqrtD rd rs1 rm => .word (0x5a000053#32 ||| putRd rd ||| putRs1 rs1 ||| putRm rm)
  | .fsgnjD rd rs1 rs2 => .word (0x22000053#32 ||| putRd rd ||| putRs1 rs1 ||| putRs2 rs2)
  | .fsgnjnD rd rs1 rs2 => .word (0x22001053#32 ||| putRd rd ||| putRs1 rs1 ||| putRs2 rs2)
  | .fsgnjxD rd rs1 rs2 => .word (0x22002053#32 ||| putRd rd ||| putRs1 rs1 ||| putRs2 rs2)
  | .fminD rd rs1 rs2 => .word (0x2a000053#32 ||| putRd rd ||| putRs1 rs1 ||| putRs2 rs2)
  | .fmaxD rd rs1 rs2 => .word (0x2a001053#32 ||| putRd rd ||| putRs1 rs1 ||| putRs2 rs2)
  | .fcvtSD rd rs1 rm => .word (0x40100053#32 ||| putRd rd ||| putRs1 rs1 ||| putRm rm)
  | .fcvtDS rd rs1 rm => .word (0x42000053#32 ||| putRd rd ||| putRs1 rs1 ||| putRm rm)
  | .feqD rd rs1 rs2 => .word (0xa2002053#32 ||| putRd rd ||| putRs1 rs1 ||| putRs2 rs2)
  | .fltD rd rs1 rs2 => .word (0xa2001053#32 ||| putRd rd ||| putRs1 rs1 ||| putRs2 rs2)
  | .fleD rd rs1 rs2 => .word (0xa2000053#32 ||| putRd rd ||| putRs1 rs1 ||| putRs2 rs2)
  | .fclassD rd rs1 => .word (0xe2001053#32 ||| putRd rd ||| putRs1 rs1)
  | .fcvtWD rd rs1 rm => .word (0xc2000053#32 ||| putRd rd ||| putRs1 rs1 ||| putRm rm)
  | .fcvtWuD rd rs1 rm => .word (0xc2100053#32 ||| putRd rd ||| putRs1 rs1 ||| putRm rm)
  | .fcvtDW rd rs1 rm => .word (0xd2000053#32 ||| putRd rd ||| putRs1 rs1 ||| putRm rm)
  | .fcvtDWu rd rs1 rm => .word (0xd2100053#32 ||| putRd rd ||| putRs1 rs1 ||| putRm rm)
  | .cAddi4spn rd nzuimm => .half (0x0000#16 ||| putLow3 rd ||| putCAddi4spn nzuimm)
  | .cFld rd rs1 uimm => .half (0x2000#16 ||| putLow3 rd ||| putMid3 rs1 ||| putCDouble uimm)
  | .cLw rd rs1 uimm => .half (0x4000#16 ||| putLow3 rd ||| putMid3 rs1 ||| putCWord uimm)
  | .cFlw rd rs1 uimm => .half (0x6000#16 ||| putLow3 rd ||| putMid3 rs1 ||| putCWord uimm)
  | .cFsd rs1 rs2 uimm => .half (0xa000#16 ||| putMid3 rs1 ||| putLow3 rs2 ||| putCDouble uimm)
  | .cSw rs1 rs2 uimm => .half (0xc000#16 ||| putMid3 rs1 ||| putLow3 rs2 ||| putCWord uimm)
  | .cFsw rs1 rs2 uimm => .half (0xe000#16 ||| putMid3 rs1 ||| putLow3 rs2 ||| putCWord uimm)
  | .cNop imm => .half (0x0001#16 ||| putCImm6 imm)
  | .cAddi rd imm => .half (0x0001#16 ||| putMid5 rd ||| putCImm6 imm)
  | .cJal imm => .half (0x2001#16 ||| putCJump imm)
  | .cLi rd imm => .half (0x4001#16 ||| putMid5 rd ||| putCImm6 imm)
  | .cAddi16sp nzimm => .half (0x6101#16 ||| putCAddi16sp nzimm)
  | .cLui rd nzimm => .half (0x6001#16 ||| putMid5 rd ||| putCLui nzimm)
  | .cSrli rd shamt => .half (0x8001#16 ||| putMid3 rd ||| putCShamt shamt)
  | .cSrai rd shamt => .half (0x8401#16 ||| putMid3 rd ||| putCShamt shamt)
  | .cAndi rd imm => .half (0x8801#16 ||| putMid3 rd ||| putCImm6 imm)
  | .cSub rd rs2 => .half (0x8c01#16 ||| putMid3 rd ||| putLow3 rs2)
  | .cXor rd rs2 => .half (0x8c21#16 ||| putMid3 rd ||| putLow3 rs2)
  | .cOr rd rs2 => .half (0x8c41#16 ||| putMid3 rd ||| putLow3 rs2)
  | .cAnd rd rs2 => .half (0x8c61#16 ||| putMid3 rd ||| putLow3 rs2)
  | .cJ imm => .half (0xa001#16 ||| putCJump imm)
  | .cBeqz rs1 imm => .half (0xc001#16 ||| putMid3 rs1 ||| putCBranch imm)
  | .cBnez rs1 imm => .half (0xe001#16 ||| putMid3 rs1 ||| putCBranch imm)
  | .cSlli rd shamt => .half (0x0002#16 ||| putMid5 rd ||| putCShamt shamt)
  | .cFldsp rd uimm => .half (0x2002#16 ||| putMid5 rd ||| putCDoubleSp uimm)
  | .cLwsp rd uimm => .half (0x4002#16 ||| putMid5 rd ||| putCWordSp uimm)
  | .cFlwsp rd uimm => .half (0x6002#16 ||| putMid5 rd ||| putCWordSp uimm)
  | .cJr rs1 => .half (0x8002#16 ||| putMid5 rs1)
  | .cMv rd rs2 => .half (0x8002#16 ||| putMid5 rd ||| putLow5 rs2)
  | .cEbreak => .half (0x9002#16)
  | .cJalr rs1 => .half (0x9002#16 ||| putMid5 rs1)
  | .cAdd rd rs2 => .half (0x9002#16 ||| putMid5 rd ||| putLow5 rs2)
  | .cFsdsp rs2 uimm => .half (0xa002#16 ||| putLow5 rs2 ||| putCStoreDoubleSp uimm)
  | .cSwsp rs2 uimm => .half (0xc002#16 ||| putLow5 rs2 ||| putCStoreWordSp uimm)
  | .cFswsp rs2 uimm => .half (0xe002#16 ||| putLow5 rs2 ||| putCStoreWordSp uimm)

namespace Instr

/-- `raw` of R104, the value an execute-time `IllegalInstruction` carries (log 11). -/
def raw (i : Instr) : Word := (encode i).raw

/-- `ilen` of R104. -/
def ilen (i : Instr) : Word := (encode i).ilen

end Instr

end Sys2Proof
end

