-- ==== Sys2Proof/Machine/State.lean ====
section
/-!
DEFINITION. The state of the core (10_state.md R20) and of the platform's memory that answers its requests
(20_memory.md R60), the traps (60_exceptions.md R501), and the state after reset (70_reset_and_hazards.md R550).
-/

namespace Sys2Proof.Machine

/-- The nine traps, with the value each carries (R501). Taking one is a next state (log 9). -/
inductive Trap where
  /-- A jump or taken branch to a target that is no multiple of IALIGN, or such a `pc` at the start of a step. -/
  | instructionAddressMisaligned (addr : Word)
  /-- A refused fetch; `addr` is the address of the refused halfword. -/
  | instructionAccessFault (addr : Word)
  /-- No instruction, an unimplemented or read-only CSR, a bad rounding mode, or a misaligned atomic. -/
  | illegalInstruction (raw : Word)
  /-- `ebreak` and `c.ebreak`. -/
  | breakpoint
  /-- A load at a misaligned effective address. -/
  | loadAddressMisaligned (addr : Word)
  /-- A load request the platform refused. -/
  | loadAccessFault (addr : Word)
  /-- A store at a misaligned effective address. -/
  | storeAddressMisaligned (addr : Word)
  /-- A store request the platform refused. -/
  | storeAccessFault (addr : Word)
  /-- `ecall`. -/
  | environmentCall
deriving DecidableEq, Repr

/-- What the step answered (R11). The model's own field (log 7). -/
inductive Answer where
  /-- No step has been taken since reset. -/
  | idle
  /-- `Ok`: the instruction committed. -/
  | ok
  /-- `Err(trap, tval)`; `tval` is the value the trap carries (R505). -/
  | err (t : Trap)
deriving DecidableEq, Repr

/-- One request on the memory interface (R10, R63 to R66). -/
inductive Request where
  /-- `fetch(addr)`, 16 bits. -/
  | fetch (addr : Word)
  /-- `load(addr, width)`, `width` in bytes. -/
  | load (addr : Word) (width : Nat)
  /-- `store(addr, width, value)`; `value` is the number of `8 * width` bits. -/
  | store (addr : Word) (width : Nat) (value : Nat)
deriving DecidableEq, Repr

/-- A region of the platform's map: `size` bytes from `base` on, modulo 2^32, and the requests it accepts (R10, R60,
R65; log 5). -/
structure Region where
  base : Word
  size : Nat
  fetch : Bool
  load : Bool
  store : Bool
deriving DecidableEq, Repr

/-- Why a run of the model ends in a fault: never. "There is no other way for a step to fail" (R501): every failure
the spec gives is a trap, which is a next state (log 9). -/
inductive Fault
deriving DecidableEq, Repr

/-- Why the model refuses an instruction. -/
inductive Refusal where
  /-- An instruction without a meaning; raised by an arm of `exec` only, and by none of them now. Safe. -/
  | notModelled (mnemonic : String)
deriving DecidableEq, Repr

/-- Everything a step reads or writes. -/
structure State where
  /-- The build-time parameters (R5). No step and no host action changes them (log 1). -/
  cfg : Config
  /-- Which requests the platform accepts (R60, D37; log 5). -/
  map : List Region
  /-- The platform's bytes, by rising address, none equal to what an unlisted address reads as (R60; log 4). -/
  mem : List Host.Cell
  /-- `x[0..31]` (R21). Read and written through `getX` and `setX` only. -/
  x : Vector Word 32
  /-- `f[0..31]` (R27). -/
  f : Vector DWord 32
  /-- `pc` (R24). -/
  pc : Word
  /-- `fcsr`: `frm` in bits 7..5, `fflags` in bits 4..0 (R30). -/
  fcsr : BitVec 8
  /-- The trap-state registers (R36). -/
  mcause : Word
  mepc : Word
  mtval : Word
  /-- The LR/SC reservation slot: none, or the address of the reserved word (R38). -/
  reservation : Option Word
  /-- `Clock` (R39). -/
  clock : BitVec 64
  /-- The answer of the last step (R11; log 7). -/
  answer : Answer
  /-- The requests the last step made, in order (R73; log 7). -/
  bus : List Request
deriving DecidableEq, Repr

/-- What every meaning and the step answer with. -/
abbrev Result := Host.Outcome State Fault Refusal

namespace State

/-- The platform's map after reset: every request is accepted. DESIGN CHOICE (log 5). -/
def openMap : List Region :=
  [{ base := 0#32, size := 2 ^ 32, fetch := true, load := true, store := true }]

/-- The core right after reset with the given parameters (R40, R550), on a platform that accepts every request and
whose memory lists nothing (log 4, log 5). -/
def resetWith (cfg : Config) : State where
  cfg := cfg
  map := openMap
  mem := []
  x := Vector.replicate 32 0#32
  f := Vector.replicate 32 0#64
  pc := cfg.resetPc
  fcsr := 0#8
  mcause := 0#32
  mepc := 0#32
  mtval := 0#32
  reservation := none
  clock := 0#64
  answer := .idle
  bus := []

/-- The core right after reset with the standard parameters (log 2, log 3). -/
def reset : State := resetWith Config.standard

end State

end Sys2Proof.Machine
end

