-- ==== Sys2Proof/Machine/Ops.lean ====
section
/-!
DEFINITION. The shared operations over memory and over the whole state: the bytes of memory (20_memory.md R60 to
R66), the platform's verdict, taking a trap and resuming from one (60_exceptions.md R504, R510, R517), committing an
instruction (R25, R500), fetching one (R500 items 1 to 3), and the data accesses every load, store and atomic
instruction is made of (R221, R240, R243).
-/

namespace Sys2Proof.Machine

/-! ### Bytes of memory (R60, R62) -/

/-- The platform's memory: addresses with their bytes (R60). -/
abbrev Memory := List Host.Cell

/-- What an address that is not listed reads as. DESIGN CHOICE (log 4): the spec gives no contents. -/
def unlisted : Byte := 0x00#8

/-- The byte at an address. -/
def Memory.read : Memory → Nat → Byte
  | [], _ => unlisted
  | (k, b) :: rest, a => if k = a then b else Memory.read rest a

/-- Write one byte, keeping the canonical form: a byte equal to `unlisted` is not listed. -/
def Memory.write : Memory → Nat → Byte → Memory
  | [], a, b => if b = unlisted then [] else [(a, b)]
  | (k, c) :: rest, a, b =>
    if a < k then
      if b = unlisted then (k, c) :: rest else (a, b) :: (k, c) :: rest
    else if a = k then
      if b = unlisted then rest else (a, b) :: rest
    else
      (k, c) :: Memory.write rest a b

/-- Canonical from address `lo` on: addresses rise, stay below 2^32, and no entry is what an unlisted one reads as. -/
def Memory.wfFrom : Nat → Memory → Bool
  | _, [] => true
  | lo, (k, b) :: rest => decide (lo ≤ k) && decide (k < 2 ^ 32) && b != unlisted && Memory.wfFrom (k + 1) rest

/-- The canonical form of memory: equal memories are equal lists. -/
def Memory.wf (m : Memory) : Bool :=
  Memory.wfFrom 0 m

/-- The `n` bytes at `a` and the addresses after it, modulo 2^32, as one little-endian value (R62). -/
def readBytes : (n : Nat) → Memory → Word → BitVec (8 * n)
  | 0, _, _ => 0#0
  | n + 1, m, a => readBytes n m (a + 1#32) ++ Memory.read m a.toNat

/-- Write `n` bytes little-endian at `a` and the addresses after it, modulo 2^32 (R62). -/
def writeBytes : (n : Nat) → Memory → Word → BitVec (8 * n) → Memory
  | 0, m, _, _ => m
  | n + 1, m, a, v =>
    writeBytes n (Memory.write m a.toNat (v.extractLsb' 0 8)) (a + 1#32) (v.extractLsb' 8 (8 * n))

/-! ### What the platform accepts (R10, R60, R65; log 5) -/

/-- The three request kinds of the memory interface. -/
inductive AccessKind where
  | fetch
  | load
  | store
deriving DecidableEq, Repr

/-- The region holds the address. -/
def Region.contains (r : Region) (a : Word) : Bool :=
  decide ((a - r.base).toNat < r.size)

/-- The region accepts this kind of request. -/
def Region.permits (r : Region) : AccessKind → Bool
  | .fetch => r.fetch
  | .load => r.load
  | .store => r.store

/-- The platform accepts this kind of request at one byte. -/
def acceptsByte (map : List Region) (k : AccessKind) (a : Word) : Bool :=
  map.any fun r => r.permits k && r.contains a

/-- The platform accepts a request of `n` bytes at `a`: it accepts every byte (R63, R64, R66). -/
def accepts (map : List Region) (k : AccessKind) (a : Word) (n : Nat) : Bool :=
  (List.range n).all fun i => acceptsByte map k (a + BitVec.ofNat 32 i)

/-- `a` is a multiple of `n` (R67). -/
def aligned (a : Word) (n : Nat) : Bool :=
  a.toNat % n == 0

/-- Log a request on the memory interface (R10, R73; log 7). -/
def State.request (r : Request) (s : State) : State :=
  { s with bus := s.bus ++ [r] }

/-! ### Traps (R501 to R505) -/

/-- The cause code (R502). -/
def Trap.code : Trap → Word
  | .instructionAddressMisaligned _ => 0#32
  | .instructionAccessFault _ => 1#32
  | .illegalInstruction _ => 2#32
  | .breakpoint => 3#32
  | .loadAddressMisaligned _ => 4#32
  | .loadAccessFault _ => 5#32
  | .storeAddressMisaligned _ => 6#32
  | .storeAccessFault _ => 7#32
  | .environmentCall => 11#32

/-- The value written to `mtval` and answered as `tval` (R505). -/
def Trap.value : Trap → Word
  | .instructionAddressMisaligned addr => addr
  | .instructionAccessFault addr => addr
  | .illegalInstruction raw => raw
  | .breakpoint => 0#32
  | .loadAddressMisaligned addr => addr
  | .loadAccessFault addr => addr
  | .storeAddressMisaligned addr => addr
  | .storeAccessFault addr => addr
  | .environmentCall => 0#32

/-- Take a trap (R504): `mcause`, `mepc` and `mtval` are written, the step answers `Err(trap, tval)`, and nothing else
changes: `pc` stays and `Clock` does not count the step (R39). -/
def takeTrap (t : Trap) (s : State) : State :=
  { s with mcause := t.code, mepc := s.pc, mtval := t.value, answer := .err t }

/-- Return from a trap (R510): there is no instruction for it; the host sets `pc` and starts the next step. Nothing is
restored, and the three trap registers keep their values (R511). -/
def resumeAt (target : Word) (s : State) : State :=
  { s with pc := target }

/-- The length in bytes of the instruction at `mepc`, by which a host skips it (R517). -/
def skipLength (s : State) : Word :=
  if isCompressed s.cfg (readBytes 2 s.mem s.mepc) then 2#32 else 4#32

/-- Skip the trapped instruction: `pc <- mepc + ilen` (R517). -/
def resumePast (s : State) : State :=
  resumeAt (s.mepc + skipLength s) s

/-! ### Committing (R25, R39, R500 items 5 and 6) -/

/-- End the step with `Ok` and `pc` at `next`; Clock counts the committed step (R39). -/
def commitAt (next : Word) (s : State) : State :=
  { s with pc := next, clock := s.clock + 1#64, answer := .ok }

/-- End the step with `Ok` after an instruction that does not assign `pc`: `pc <- pc + ilen` (R25, R26). -/
def retire (ilen : Word) (s : State) : State :=
  commitAt (s.pc + ilen) s

/-! ### Fetching (R65, R500 items 1 to 3) -/

/-- `Fetch16(addr)` (R65): the halfword, or none where the platform refuses. -/
def fetch16 (a : Word) (s : State) : Option Half :=
  if accepts s.map .fetch a 2 then some (readBytes 2 s.mem a) else none

/-- What fetching answers: the bits of one instruction, or the trap; with its requests logged. -/
inductive Fetched where
  | code (c : Code) (s : State)
  | trapped (t : Trap) (s : State)
deriving DecidableEq, Repr

/-- Items 1 to 3 of R500: `pc` is checked (R506), then the low halfword is fetched, then, unless it is a 16-bit
instruction, the high one (R101, R507). -/
def fetchCode (s : State) : Fetched :=
  if aligned s.pc s.cfg.ialign then
    let s1 := s.request (.fetch s.pc)
    match fetch16 s.pc s with
    | none => .trapped (.instructionAccessFault s.pc) s1
    | some lo =>
      if isCompressed s.cfg lo then .code (.half lo) s1
      else
        let s2 := s1.request (.fetch (s.pc + 2#32))
        match fetch16 (s.pc + 2#32) s with
        | none => .trapped (.instructionAccessFault (s.pc + 2#32)) s2
        | some hi => .code (.word (hi ++ lo)) s2
  else
    .trapped (.instructionAddressMisaligned s.pc) s

/-! ### Data accesses (R63, R64, R66, R68, R71) -/

/-- `MemRead(ea, n)`: one request, then the value to `k`, or LoadAccessFault where the platform refuses (R63). -/
def readThen (n : Nat) (ea : Word) (s : State) (k : BitVec (8 * n) → State → Result) : Result :=
  if accepts s.map .load ea n then k (readBytes n s.mem ea) (s.request (.load ea n))
  else .next (takeTrap (.loadAccessFault ea) (s.request (.load ea n)))

/-- The `n` bytes at `ea` overlap the four bytes at the reserved address, addresses modulo 2^32 (R241; log 14). -/
def overlapsReserved (ea : Word) (n : Nat) (reserved : Word) : Bool :=
  decide ((ea - reserved).toNat < 4) || decide ((reserved - ea).toNat < n)

/-- The reservation after an accepted store of `n` bytes at `ea` (R241 b). -/
def reservationAfterStore (ea : Word) (n : Nat) : Option Word → Option Word
  | none => none
  | some r => if overlapsReserved ea n r then none else some r

/-- The state after an accepted store (R64, R241 b). -/
def State.stored (n : Nat) (ea : Word) (v : BitVec (8 * n)) (s : State) : State :=
  { s with mem := writeBytes n s.mem ea v, reservation := reservationAfterStore ea n s.reservation }

/-- `MemWrite(ea, n, v)`: one request, then on to `k`, or StoreAccessFault where the platform refuses; a refused
store writes nothing (R64, R66). -/
def writeThen (n : Nat) (ea : Word) (v : BitVec (8 * n)) (s : State) (k : State → Result) : Result :=
  if accepts s.map .store ea n then k ((s.request (.store ea n v.toNat)).stored n ea v)
  else .next (takeTrap (.storeAccessFault ea) (s.request (.store ea n v.toNat)))

/-- The access of a load (R221): alignment first, with no request where it fails (R68, R71). -/
def loadThen (n : Nat) (ea : Word) (s : State) (k : BitVec (8 * n) → State → Result) : Result :=
  if aligned ea n then readThen n ea s k
  else .next (takeTrap (.loadAddressMisaligned ea) s)

/-- The access of a store (R221): alignment first, with no request where it fails (R68, R71). -/
def storeThen (n : Nat) (ea : Word) (v : BitVec (8 * n)) (s : State) (k : State → Result) : Result :=
  if aligned ea n then writeThen n ea v s k
  else .next (takeTrap (.storeAddressMisaligned ea) s)

/-- The first check of every atomic instruction (R240): a misaligned address is an illegal instruction (R69). -/
def atomicThen (ea raw : Word) (s : State) (k : State → Result) : Result :=
  if aligned ea 4 then k s
  else .next (takeTrap (.illegalInstruction raw) s)

end Sys2Proof.Machine
end

