-- ==== Sys2Proof/Machine/Operands.lean ====
section
/-!
DEFINITION. The operand forms: integer registers with the hard-wired `x[0]` (10_state.md R22), floating-point
registers raw and NaN-boxed (R27 to R29), immediates extended to 32 bits (30_encoding.md R106, R118), effective
addresses (43_load_store.md R220) and the register numbers of the 16-bit formats (R117, R452).
-/

namespace Sys2Proof.Machine

/-- `x[r]` as an operand (R15, R22): register 0 reads as 0. -/
def State.getX (s : State) (r : Reg) : Word :=
  if r = 0 then 0#32 else s.x.get r

/-- `x[r] <- v` (R15, R22): register 0 discards the write. -/
def State.setX (r : Reg) (v : Word) (s : State) : State :=
  if r = 0 then s else { s with x := s.x.set r.val v r.isLt }

/-- `f[r]`, all 64 bits (R27). -/
def State.getF (s : State) (r : FReg) : DWord :=
  s.f.get r

/-- `f[r] <- v`. -/
def State.setF (r : FReg) (v : DWord) (s : State) : State :=
  { s with f := s.f.set r.val v r.isLt }

/-- The canonical single NaN (R303). -/
def canonicalNaNS : Word := 0x7fc00000#32

/-- What a single-precision read makes of 64 register bits (R28): the low half of a boxed value, else the canonical
NaN. -/
def unbox (w : DWord) : Word :=
  if w.extractLsb' 32 32 = 0xffffffff#32 then w.extractLsb' 0 32 else canonicalNaNS

/-- A NaN-boxed single (R27, R28). -/
def box (v : Word) : DWord :=
  0xffffffff#32 ++ v

/-- `ReadS(r)` (R28). -/
def State.readS (s : State) (r : FReg) : Word :=
  unbox (s.getF r)

/-- `WriteS(r, v)` (R28). -/
def State.writeS (r : FReg) (v : Word) (s : State) : State :=
  s.setF r (box v)

/-- `f[r][31:0]` with no box check, as `fsw` and `fmv.x.w` read it (R29). -/
def State.lowF (s : State) (r : FReg) : Word :=
  (s.getF r).extractLsb' 0 32

/-- `sext_N` to 32 bits (R14). -/
def sext {n : Nat} (v : BitVec n) : Word :=
  v.signExtend 32

/-- `zext_N` to 32 bits (R14). -/
def zext {n : Nat} (v : BitVec n) : Word :=
  v.setWidth 32

/-- `{imm20, 12'b0}` (R106, R152). -/
def upperImm (imm20 : BitVec 20) : Word :=
  imm20 ++ 0#12

/-- The effective address `x[rs1] + sext(imm)` modulo 2^32 (R75, R220). -/
def State.ea (s : State) (rs1 : Reg) (imm : BitVec 12) : Word :=
  s.getX rs1 + sext imm

/-- The effective address of a 16-bit load or store: `x[rs1] + zext(uimm)` modulo 2^32 (R118, R455 to R489). -/
def State.eaZ (s : State) {n : Nat} (rs1 : Reg) (uimm : BitVec n) : Word :=
  s.getX rs1 + zext uimm

/-- The register a three-bit field names: `8 + field` (R117, R452). -/
def fromSmall (r : Fin 8) : Fin 32 :=
  ⟨8 + r.val, by omega⟩

/-- `ra`, the link register of `c.jal` and `c.jalr` (R452). -/
def ra : Reg := 1

/-- `sp`, the base register of the stack-relative forms (R452). -/
def sp : Reg := 2

/-- `1` or `0` as a 32-bit value (R151). -/
def flagWord (b : Bool) : Word :=
  if b then 1#32 else 0#32

end Sys2Proof.Machine
end

