-- ==== Sys2Proof/Machine/Atomic.lean ====
section
/-!
DEFINITION. The atomic instructions (44_a_extension.md R240 to R255). `aq` and `rl` are decoded and have no effect
(R83, R242). A misaligned address is an illegal instruction, whose value is the instruction's `raw` (R240, log 11).
-/

namespace Sys2Proof.Machine

/-- The common operation of the nine AMOs: read, compute, write, then `x[rd] <- old` (R243, R246). -/
def amo (raw : Word) (op : Word → Word → Word) (rd rs1 rs2 : Reg) (s : State) : Result :=
  atomicThen (s.getX rs1) raw s fun s =>
    readThen 4 (s.getX rs1) s fun old s =>
      writeThen 4 (s.getX rs1) (op old (s.getX rs2)) s fun s =>
        .next (retire 4#32 (s.setX rd old))

/-- The signed minimum of R251. -/
def minSigned (old v : Word) : Word := if old.toInt ≤ v.toInt then old else v

/-- The signed maximum of R252. -/
def maxSigned (old v : Word) : Word := if v.toInt ≤ old.toInt then old else v

/-- The unsigned minimum of R253. -/
def minUnsigned (old v : Word) : Word := if old.toNat ≤ v.toNat then old else v

/-- The unsigned maximum of R254. -/
def maxUnsigned (old v : Word) : Word := if v.toNat ≤ old.toNat then old else v

/-- R244. -/
def execLrW (rd rs1 : Reg) (aq rl : Bool) (s : State) : Result :=
  atomicThen (s.getX rs1) (Instr.raw (.lrW rd rs1 aq rl)) s fun s =>
    readThen 4 (s.getX rs1) s fun v s =>
      .next (retire 4#32 (State.setX rd v { s with reservation := some (s.getX rs1) }))

/-- R245: a failing `sc.w` makes no request; each completed one clears the reservation. -/
def execScW (rd rs1 rs2 : Reg) (aq rl : Bool) (s : State) : Result :=
  atomicThen (s.getX rs1) (Instr.raw (.scW rd rs1 rs2 aq rl)) s fun s =>
    if s.reservation = some (s.getX rs1) then
      writeThen 4 (s.getX rs1) (s.getX rs2) s fun s =>
        .next (retire 4#32 (State.setX rd 0#32 { s with reservation := none }))
    else
      .next (retire 4#32 (State.setX rd 1#32 { s with reservation := none }))

/-- R246. -/
def execAmoswapW (rd rs1 rs2 : Reg) (aq rl : Bool) (s : State) : Result :=
  amo (Instr.raw (.amoswapW rd rs1 rs2 aq rl)) (fun _ v => v) rd rs1 rs2 s

/-- R247. -/
def execAmoaddW (rd rs1 rs2 : Reg) (aq rl : Bool) (s : State) : Result :=
  amo (Instr.raw (.amoaddW rd rs1 rs2 aq rl)) (fun old v => old + v) rd rs1 rs2 s

/-- R248. -/
def execAmoxorW (rd rs1 rs2 : Reg) (aq rl : Bool) (s : State) : Result :=
  amo (Instr.raw (.amoxorW rd rs1 rs2 aq rl)) (fun old v => old ^^^ v) rd rs1 rs2 s

/-- R249. -/
def execAmoandW (rd rs1 rs2 : Reg) (aq rl : Bool) (s : State) : Result :=
  amo (Instr.raw (.amoandW rd rs1 rs2 aq rl)) (fun old v => old &&& v) rd rs1 rs2 s

/-- R250. -/
def execAmoorW (rd rs1 rs2 : Reg) (aq rl : Bool) (s : State) : Result :=
  amo (Instr.raw (.amoorW rd rs1 rs2 aq rl)) (fun old v => old ||| v) rd rs1 rs2 s

/-- R251. -/
def execAmominW (rd rs1 rs2 : Reg) (aq rl : Bool) (s : State) : Result :=
  amo (Instr.raw (.amominW rd rs1 rs2 aq rl)) minSigned rd rs1 rs2 s

/-- R252. -/
def execAmomaxW (rd rs1 rs2 : Reg) (aq rl : Bool) (s : State) : Result :=
  amo (Instr.raw (.amomaxW rd rs1 rs2 aq rl)) maxSigned rd rs1 rs2 s

/-- R253. -/
def execAmominuW (rd rs1 rs2 : Reg) (aq rl : Bool) (s : State) : Result :=
  amo (Instr.raw (.amominuW rd rs1 rs2 aq rl)) minUnsigned rd rs1 rs2 s

/-- R254. -/
def execAmomaxuW (rd rs1 rs2 : Reg) (aq rl : Bool) (s : State) : Result :=
  amo (Instr.raw (.amomaxuW rd rs1 rs2 aq rl)) maxUnsigned rd rs1 rs2 s

end Sys2Proof.Machine
end

