-- ==== Sys2Proof/Machine/Integer.lean ====
section
/-!
DEFINITION. The integer computational instructions (40_integer.md R150 to R172). None of them traps, makes a data
access or touches a flag (R150).
-/

namespace Sys2Proof.Machine

/-- The end of every instruction of this family: write `x[rd]`, advance `pc` by `ilen` (R25, R150). -/
def writeX (ilen : Word) (rd : Reg) (v : Word) (s : State) : Result :=
  .next (retire ilen (s.setX rd v))

/-- `a < b` as signed numbers, as 1 or 0 (R151). -/
def lessSigned (a b : Word) : Word := flagWord (decide (a.toInt < b.toInt))

/-- `a < b` as unsigned numbers, as 1 or 0 (R151). -/
def lessUnsigned (a b : Word) : Word := flagWord (decide (a.toNat < b.toNat))

/-- Bits 4..0 of an amount register (R151). -/
def shiftAmount (v : Word) : Nat := (v.extractLsb' 0 5).toNat

/-- R152. -/
def execLui (rd : Reg) (imm20 : BitVec 20) (s : State) : Result :=
  writeX 4#32 rd (upperImm imm20) s

/-- R153. -/
def execAuipc (rd : Reg) (imm20 : BitVec 20) (s : State) : Result :=
  writeX 4#32 rd (s.pc + upperImm imm20) s

/-- R154. -/
def execAddi (rd rs1 : Reg) (imm : BitVec 12) (s : State) : Result :=
  writeX 4#32 rd (s.getX rs1 + sext imm) s

/-- R155. -/
def execSlti (rd rs1 : Reg) (imm : BitVec 12) (s : State) : Result :=
  writeX 4#32 rd (lessSigned (s.getX rs1) (sext imm)) s

/-- R156: the immediate is sign-extended and then compared as unsigned. -/
def execSltiu (rd rs1 : Reg) (imm : BitVec 12) (s : State) : Result :=
  writeX 4#32 rd (lessUnsigned (s.getX rs1) (sext imm)) s

/-- R157. -/
def execXori (rd rs1 : Reg) (imm : BitVec 12) (s : State) : Result :=
  writeX 4#32 rd (s.getX rs1 ^^^ sext imm) s

/-- R158. -/
def execOri (rd rs1 : Reg) (imm : BitVec 12) (s : State) : Result :=
  writeX 4#32 rd (s.getX rs1 ||| sext imm) s

/-- R159. -/
def execAndi (rd rs1 : Reg) (imm : BitVec 12) (s : State) : Result :=
  writeX 4#32 rd (s.getX rs1 &&& sext imm) s

/-- R160. -/
def execSlli (rd rs1 : Reg) (shamt : BitVec 5) (s : State) : Result :=
  writeX 4#32 rd (s.getX rs1 <<< shamt.toNat) s

/-- R161. -/
def execSrli (rd rs1 : Reg) (shamt : BitVec 5) (s : State) : Result :=
  writeX 4#32 rd (s.getX rs1 >>> shamt.toNat) s

/-- R162. -/
def execSrai (rd rs1 : Reg) (shamt : BitVec 5) (s : State) : Result :=
  writeX 4#32 rd ((s.getX rs1).sshiftRight shamt.toNat) s

/-- R163. -/
def execAdd (rd rs1 rs2 : Reg) (s : State) : Result :=
  writeX 4#32 rd (s.getX rs1 + s.getX rs2) s

/-- R164. -/
def execSub (rd rs1 rs2 : Reg) (s : State) : Result :=
  writeX 4#32 rd (s.getX rs1 - s.getX rs2) s

/-- R165. -/
def execSll (rd rs1 rs2 : Reg) (s : State) : Result :=
  writeX 4#32 rd (s.getX rs1 <<< shiftAmount (s.getX rs2)) s

/-- R166. -/
def execSlt (rd rs1 rs2 : Reg) (s : State) : Result :=
  writeX 4#32 rd (lessSigned (s.getX rs1) (s.getX rs2)) s

/-- R167. -/
def execSltu (rd rs1 rs2 : Reg) (s : State) : Result :=
  writeX 4#32 rd (lessUnsigned (s.getX rs1) (s.getX rs2)) s

/-- R168. -/
def execXor (rd rs1 rs2 : Reg) (s : State) : Result :=
  writeX 4#32 rd (s.getX rs1 ^^^ s.getX rs2) s

/-- R169. -/
def execSrl (rd rs1 rs2 : Reg) (s : State) : Result :=
  writeX 4#32 rd (s.getX rs1 >>> shiftAmount (s.getX rs2)) s

/-- R170. -/
def execSra (rd rs1 rs2 : Reg) (s : State) : Result :=
  writeX 4#32 rd ((s.getX rs1).sshiftRight (shiftAmount (s.getX rs2))) s

/-- R171. -/
def execOr (rd rs1 rs2 : Reg) (s : State) : Result :=
  writeX 4#32 rd (s.getX rs1 ||| s.getX rs2) s

/-- R172. -/
def execAnd (rd rs1 rs2 : Reg) (s : State) : Result :=
  writeX 4#32 rd (s.getX rs1 &&& s.getX rs2) s

end Sys2Proof.Machine
end

