-- ==== Sys2Proof/Machine/Control.lean ====
section
/-!
DEFINITION. Jumps and conditional branches (42_control_transfer.md R200 to R211). The target is checked before
anything is written, the link register included (R200, R201).
-/

namespace Sys2Proof.Machine

/-- Check a target against IALIGN, and trap at the jump itself where it fails (R70, R200). -/
def targetThen (t : Word) (s : State) (k : Result) : Result :=
  if aligned t s.cfg.ialign then k
  else .next (takeTrap (.instructionAddressMisaligned t) s)

/-- A jump: check the target, write the link `pc + ilen`, go (R201, R203). -/
def jumpTo (ilen : Word) (rd : Reg) (t : Word) (s : State) : Result :=
  targetThen t s (.next (commitAt t (s.setX rd (s.pc + ilen))))

/-- A conditional branch with its own `pc` as base; one that is not taken never traps (R200, R205). -/
def branchIf (ilen : Word) (taken : Bool) (offset : Word) (s : State) : Result :=
  if taken then targetThen (s.pc + offset) s (.next (commitAt (s.pc + offset) s))
  else .next (retire ilen s)

/-- The target of `jalr`: bit 0 of the sum is cleared (R204, D34). -/
def jalrTarget (base offset : Word) : Word := (base + offset) &&& 0xfffffffe#32

/-- R203. -/
def execJal (rd : Reg) (imm : BitVec 21) (s : State) : Result :=
  jumpTo 4#32 rd (s.pc + sext imm) s

/-- R204. -/
def execJalr (rd rs1 : Reg) (imm : BitVec 12) (s : State) : Result :=
  jumpTo 4#32 rd (jalrTarget (s.getX rs1) (sext imm)) s

/-- R205. -/
def execBeq (rs1 rs2 : Reg) (imm : BitVec 13) (s : State) : Result :=
  branchIf 4#32 (s.getX rs1 == s.getX rs2) (sext imm) s

/-- R206. -/
def execBne (rs1 rs2 : Reg) (imm : BitVec 13) (s : State) : Result :=
  branchIf 4#32 (s.getX rs1 != s.getX rs2) (sext imm) s

/-- R207. -/
def execBlt (rs1 rs2 : Reg) (imm : BitVec 13) (s : State) : Result :=
  branchIf 4#32 (decide ((s.getX rs1).toInt < (s.getX rs2).toInt)) (sext imm) s

/-- R208. -/
def execBge (rs1 rs2 : Reg) (imm : BitVec 13) (s : State) : Result :=
  branchIf 4#32 (decide ((s.getX rs2).toInt ≤ (s.getX rs1).toInt)) (sext imm) s

/-- R209. -/
def execBltu (rs1 rs2 : Reg) (imm : BitVec 13) (s : State) : Result :=
  branchIf 4#32 (decide ((s.getX rs1).toNat < (s.getX rs2).toNat)) (sext imm) s

/-- R210. -/
def execBgeu (rs1 rs2 : Reg) (imm : BitVec 13) (s : State) : Result :=
  branchIf 4#32 (decide ((s.getX rs2).toNat ≤ (s.getX rs1).toNat)) (sext imm) s

end Sys2Proof.Machine
end

