-- ==== Sys2Proof/Machine/LoadStore.lean ====
section
/-!
DEFINITION. Integer loads and stores (43_load_store.md R220 to R230), and the shapes the floating-point and 16-bit
loads and stores share with them (R374, R375, R412, R413).
-/

namespace Sys2Proof.Machine

/-- A load of `n` bytes into `x[rd]`; the access is made also when `rd` is `x0` (R221, R222). -/
def loadX (ilen : Word) (n : Nat) (extend : BitVec (8 * n) → Word) (rd : Reg) (ea : Word) (s : State) : Result :=
  loadThen n ea s fun v s => .next (retire ilen (s.setX rd (extend v)))

/-- A load of four bytes into `f[rd]`, boxed (R374). -/
def loadS (ilen : Word) (rd : FReg) (ea : Word) (s : State) : Result :=
  loadThen 4 ea s fun v s => .next (retire ilen (s.writeS rd v))

/-- A load of eight bytes into `f[rd]` (R412). -/
def loadD (ilen : Word) (rd : FReg) (ea : Word) (s : State) : Result :=
  loadThen 8 ea s fun v s => .next (retire ilen (s.setF rd v))

/-- A store of `n` bytes (R221). -/
def storeBytes (ilen : Word) (n : Nat) (ea : Word) (v : BitVec (8 * n)) (s : State) : Result :=
  storeThen n ea v s fun s => .next (retire ilen s)

/-- R223. -/
def execLb (rd rs1 : Reg) (imm : BitVec 12) (s : State) : Result :=
  loadX 4#32 1 sext rd (s.ea rs1 imm) s

/-- R224. -/
def execLh (rd rs1 : Reg) (imm : BitVec 12) (s : State) : Result :=
  loadX 4#32 2 sext rd (s.ea rs1 imm) s

/-- R225. -/
def execLw (rd rs1 : Reg) (imm : BitVec 12) (s : State) : Result :=
  loadX 4#32 4 zext rd (s.ea rs1 imm) s

/-- R226. -/
def execLbu (rd rs1 : Reg) (imm : BitVec 12) (s : State) : Result :=
  loadX 4#32 1 zext rd (s.ea rs1 imm) s

/-- R227. -/
def execLhu (rd rs1 : Reg) (imm : BitVec 12) (s : State) : Result :=
  loadX 4#32 2 zext rd (s.ea rs1 imm) s

/-- R228. -/
def execSb (rs1 rs2 : Reg) (imm : BitVec 12) (s : State) : Result :=
  storeBytes 4#32 1 (s.ea rs1 imm) ((s.getX rs2).extractLsb' 0 8) s

/-- R229. -/
def execSh (rs1 rs2 : Reg) (imm : BitVec 12) (s : State) : Result :=
  storeBytes 4#32 2 (s.ea rs1 imm) ((s.getX rs2).extractLsb' 0 16) s

/-- R230. -/
def execSw (rs1 rs2 : Reg) (imm : BitVec 12) (s : State) : Result :=
  storeBytes 4#32 4 (s.ea rs1 imm) (s.getX rs2) s

end Sys2Proof.Machine
end

