-- ==== Sys2Proof/Machine/System.lean ====
section
/-!
DEFINITION. Fences, `wfi`, `ecall` and `ebreak` (45_system_csr.md R262 to R267).
-/

namespace Sys2Proof.Machine

/-- An instruction that only advances `pc` (R84, R262, R263, R266). -/
def noOperation (ilen : Word) (s : State) : Result :=
  .next (retire ilen s)

/-- R262: every field is ignored (D16). -/
def execFence (_fm _pred _succ : BitVec 4) (_rs1 _rd : Reg) (s : State) : Result :=
  noOperation 4#32 s

/-- R263: every field is ignored (D16). -/
def execFenceI (_imm : BitVec 12) (_rs1 _rd : Reg) (s : State) : Result :=
  noOperation 4#32 s

/-- R266: there is no interrupt to wait for. -/
def execWfi (s : State) : Result :=
  noOperation 4#32 s

/-- R264. -/
def execEcall (s : State) : Result :=
  .next (takeTrap .environmentCall s)

/-- R265. -/
def execEbreak (s : State) : Result :=
  .next (takeTrap .breakpoint s)

end Sys2Proof.Machine
end

