-- ==== Sys2Proof/Machine/Compressed.lean ====
section
/-!
DEFINITION. The 16-bit instructions (49_c_compressed.md R450 to R489). Each executes as its expansion, with `ilen` 2;
the shared operations of the other families take `ilen` as an argument (R116, R450). None of them raises an
IllegalInstruction trap once decoded, so none needs `raw`.
-/

namespace Sys2Proof.Machine

/-! ### Quadrant 0 -/

/-- R455: `addi rd', x2, nzuimm`. -/
def execCAddi4spn (rd : CReg) (nzuimm : BitVec 10) (s : State) : Result :=
  writeX 2#32 (fromSmall rd) (s.getX sp + zext nzuimm) s

/-- R456: `fld rd', uimm(rs1')`. -/
def execCFld (rd : CFReg) (rs1 : CReg) (uimm : BitVec 8) (s : State) : Result :=
  loadD 2#32 (fromSmall rd) (s.eaZ (fromSmall rs1) uimm) s

/-- R457: `lw rd', uimm(rs1')`. -/
def execCLw (rd rs1 : CReg) (uimm : BitVec 7) (s : State) : Result :=
  loadX 2#32 4 zext (fromSmall rd) (s.eaZ (fromSmall rs1) uimm) s

/-- R458: `flw rd', uimm(rs1')`. -/
def execCFlw (rd : CFReg) (rs1 : CReg) (uimm : BitVec 7) (s : State) : Result :=
  loadS 2#32 (fromSmall rd) (s.eaZ (fromSmall rs1) uimm) s

/-- R459: `fsd rs2', uimm(rs1')`. -/
def execCFsd (rs1 : CReg) (rs2 : CFReg) (uimm : BitVec 8) (s : State) : Result :=
  storeBytes 2#32 8 (s.eaZ (fromSmall rs1) uimm) (s.getF (fromSmall rs2)) s

/-- R460: `sw rs2', uimm(rs1')`. -/
def execCSw (rs1 rs2 : CReg) (uimm : BitVec 7) (s : State) : Result :=
  storeBytes 2#32 4 (s.eaZ (fromSmall rs1) uimm) (s.getX (fromSmall rs2)) s

/-- R461: `fsw rs2', uimm(rs1')`. -/
def execCFsw (rs1 : CReg) (rs2 : CFReg) (uimm : BitVec 7) (s : State) : Result :=
  storeBytes 2#32 4 (s.eaZ (fromSmall rs1) uimm) (s.lowF (fromSmall rs2)) s

/-! ### Quadrant 1 -/

/-- R462: `addi x0, x0, imm`. -/
def execCNop (imm : BitVec 6) (s : State) : Result :=
  writeX 2#32 0 (s.getX 0 + sext imm) s

/-- R463: `addi rd, rd, imm`. -/
def execCAddi (rd : Reg) (imm : BitVec 6) (s : State) : Result :=
  writeX 2#32 rd (s.getX rd + sext imm) s

/-- R464: `jal x1, offset`. -/
def execCJal (imm : BitVec 12) (s : State) : Result :=
  jumpTo 2#32 ra (s.pc + sext imm) s

/-- R465: `addi rd, x0, imm`. -/
def execCLi (rd : Reg) (imm : BitVec 6) (s : State) : Result :=
  writeX 2#32 rd (s.getX 0 + sext imm) s

/-- R466: `addi x2, x2, nzimm`. -/
def execCAddi16sp (nzimm : BitVec 10) (s : State) : Result :=
  writeX 2#32 sp (s.getX sp + sext nzimm) s

/-- R467: `lui rd, nzimm[31:12]`. -/
def execCLui (rd : Reg) (nzimm : BitVec 18) (s : State) : Result :=
  writeX 2#32 rd (sext nzimm) s

/-- R468: `srli rd', rd', shamt`. -/
def execCSrli (rd : CReg) (shamt : BitVec 5) (s : State) : Result :=
  writeX 2#32 (fromSmall rd) (s.getX (fromSmall rd) >>> shamt.toNat) s

/-- R469: `srai rd', rd', shamt`. -/
def execCSrai (rd : CReg) (shamt : BitVec 5) (s : State) : Result :=
  writeX 2#32 (fromSmall rd) ((s.getX (fromSmall rd)).sshiftRight shamt.toNat) s

/-- R470: `andi rd', rd', imm`. -/
def execCAndi (rd : CReg) (imm : BitVec 6) (s : State) : Result :=
  writeX 2#32 (fromSmall rd) (s.getX (fromSmall rd) &&& sext imm) s

/-- R471: `sub rd', rd', rs2'`. -/
def execCSub (rd rs2 : CReg) (s : State) : Result :=
  writeX 2#32 (fromSmall rd) (s.getX (fromSmall rd) - s.getX (fromSmall rs2)) s

/-- R472: `xor rd', rd', rs2'`. -/
def execCXor (rd rs2 : CReg) (s : State) : Result :=
  writeX 2#32 (fromSmall rd) (s.getX (fromSmall rd) ^^^ s.getX (fromSmall rs2)) s

/-- R473: `or rd', rd', rs2'`. -/
def execCOr (rd rs2 : CReg) (s : State) : Result :=
  writeX 2#32 (fromSmall rd) (s.getX (fromSmall rd) ||| s.getX (fromSmall rs2)) s

/-- R474: `and rd', rd', rs2'`. -/
def execCAnd (rd rs2 : CReg) (s : State) : Result :=
  writeX 2#32 (fromSmall rd) (s.getX (fromSmall rd) &&& s.getX (fromSmall rs2)) s

/-- R475: `jal x0, offset`. -/
def execCJ (imm : BitVec 12) (s : State) : Result :=
  jumpTo 2#32 0 (s.pc + sext imm) s

/-- R476: `beq rs1', x0, offset`. -/
def execCBeqz (rs1 : CReg) (imm : BitVec 9) (s : State) : Result :=
  branchIf 2#32 (s.getX (fromSmall rs1) == s.getX 0) (sext imm) s

/-- R477: `bne rs1', x0, offset`. -/
def execCBnez (rs1 : CReg) (imm : BitVec 9) (s : State) : Result :=
  branchIf 2#32 (s.getX (fromSmall rs1) != s.getX 0) (sext imm) s

/-! ### Quadrant 2 -/

/-- R478: `slli rd, rd, shamt`. -/
def execCSlli (rd : Reg) (shamt : BitVec 5) (s : State) : Result :=
  writeX 2#32 rd (s.getX rd <<< shamt.toNat) s

/-- R479: `fld rd, uimm(x2)`. -/
def execCFldsp (rd : FReg) (uimm : BitVec 9) (s : State) : Result :=
  loadD 2#32 rd (s.eaZ sp uimm) s

/-- R480: `lw rd, uimm(x2)`. -/
def execCLwsp (rd : Reg) (uimm : BitVec 8) (s : State) : Result :=
  loadX 2#32 4 zext rd (s.eaZ sp uimm) s

/-- R481: `flw rd, uimm(x2)`. -/
def execCFlwsp (rd : FReg) (uimm : BitVec 8) (s : State) : Result :=
  loadS 2#32 rd (s.eaZ sp uimm) s

/-- R482: `jalr x0, 0(rs1)`. -/
def execCJr (rs1 : Reg) (s : State) : Result :=
  jumpTo 2#32 0 (jalrTarget (s.getX rs1) 0#32) s

/-- R483: `add rd, x0, rs2`. -/
def execCMv (rd rs2 : Reg) (s : State) : Result :=
  writeX 2#32 rd (s.getX 0 + s.getX rs2) s

/-- R484: `ebreak`. -/
def execCEbreak (s : State) : Result :=
  .next (takeTrap .breakpoint s)

/-- R485: `jalr x1, 0(rs1)`. -/
def execCJalr (rs1 : Reg) (s : State) : Result :=
  jumpTo 2#32 ra (jalrTarget (s.getX rs1) 0#32) s

/-- R486: `add rd, rd, rs2`. -/
def execCAdd (rd rs2 : Reg) (s : State) : Result :=
  writeX 2#32 rd (s.getX rd + s.getX rs2) s

/-- R487: `fsd rs2, uimm(x2)`. -/
def execCFsdsp (rs2 : FReg) (uimm : BitVec 9) (s : State) : Result :=
  storeBytes 2#32 8 (s.eaZ sp uimm) (s.getF rs2) s

/-- R488: `sw rs2, uimm(x2)`. -/
def execCSwsp (rs2 : Reg) (uimm : BitVec 8) (s : State) : Result :=
  storeBytes 2#32 4 (s.eaZ sp uimm) (s.getX rs2) s

/-- R489: `fsw rs2, uimm(x2)`. -/
def execCFswsp (rs2 : FReg) (uimm : BitVec 8) (s : State) : Result :=
  storeBytes 2#32 4 (s.eaZ sp uimm) (s.lowF rs2) s

end Sys2Proof.Machine
end

