-- ==== Sys2Proof/Machine/Flags.lean ====
section
/-!
DEFINITION. `fcsr`: the five sticky flags (10_state.md R30 to R32), the rounding modes (R33), how an instruction
accumulates flags (47_f_single.md R372) and picks its rounding mode (R370). The integer side has no flags (R150).
-/

namespace Sys2Proof.Machine

/-- A set of the five exception flags, at their positions in `fflags` (R32). -/
abbrev FlagSet := BitVec 5

def flagNV : FlagSet := 0b10000#5
def flagDZ : FlagSet := 0b01000#5
def flagOF : FlagSet := 0b00100#5
def flagUF : FlagSet := 0b00010#5
def flagNX : FlagSet := 0b00001#5
def noFlags : FlagSet := 0#5

/-- The flag when the condition holds. -/
def raiseIf (b : Bool) (f : FlagSet) : FlagSet :=
  if b then f else noFlags

/-- The rounding modes (R33, R306). -/
inductive RoundingMode where
  /-- Round to nearest, ties to even. -/
  | rne
  /-- Round toward zero. -/
  | rtz
  /-- Round down. -/
  | rdn
  /-- Round up. -/
  | rup
  /-- Round to nearest, ties to maximum magnitude. -/
  | rmm
deriving DecidableEq, Repr

/-- The mode a three-bit code names; 5, 6 and 7 name none (R33). -/
def RoundingMode.ofBits (b : BitVec 3) : Option RoundingMode :=
  match b.toNat with
  | 0 => some .rne
  | 1 => some .rtz
  | 2 => some .rdn
  | 3 => some .rup
  | 4 => some .rmm
  | _ => none

/-- `fcsr[7:5]` (R30). -/
def State.frm (s : State) : BitVec 3 :=
  s.fcsr.extractLsb' 5 3

/-- `fcsr[4:0]` (R30). -/
def State.fflags (s : State) : FlagSet :=
  s.fcsr.extractLsb' 0 5

/-- Write `fcsr[7:5]` and leave `fflags` (R34). -/
def State.setFrm (v : BitVec 3) (s : State) : State :=
  { s with fcsr := v ++ s.fflags }

/-- Write `fcsr[4:0]` and leave `frm` (R34). -/
def State.setFflags (v : FlagSet) (s : State) : State :=
  { s with fcsr := s.frm ++ v }

/-- `fflags |= fl` (R15, R372): flags are set and never cleared; `frm` stays. -/
def State.accrue (fl : FlagSet) (s : State) : State :=
  s.setFflags (s.fflags ||| fl)

/-- `ResolveRm` (R370): a static mode 0 to 4, or `frm` for the dynamic code 7; none where the instruction traps. -/
def resolveRm (rm : BitVec 3) (s : State) : Option RoundingMode :=
  if rm = 7#3 then RoundingMode.ofBits s.frm else RoundingMode.ofBits rm

/-- Resolve the rounding mode first of all, and trap IllegalInstruction where there is none (R370). -/
def withRm (rm : BitVec 3) (raw : Word) (s : State) (k : RoundingMode → Result) : Result :=
  match resolveRm rm s with
  | some m => k m
  | none => .next (takeTrap (.illegalInstruction raw) s)

end Sys2Proof.Machine
end

