-- ==== Sys2Proof/Machine/Csr.lean ====
section
/-!
DEFINITION. The control and status registers (10_state.md R34 to R37) and the six CSR instructions (45_system_csr.md
R270 to R278). The CSRs are views of `fcsr` and `Clock`; they hold nothing of their own.
-/

namespace Sys2Proof.Machine

/-- The implemented CSRs (R34, R35). -/
inductive Csr where
  | fflags
  | frm
  | fcsr
  /-- `cycle`, `time` and `instret`: `Clock[31:0]`. -/
  | clockLow
  /-- `cycleh`, `timeh` and `instreth`: `Clock[63:32]`. -/
  | clockHigh
deriving DecidableEq, Repr

/-- The CSR at an address, where the core has one (R34, R35, R37, D4). -/
def csrAt (cfg : Config) (csr : BitVec 12) : Option Csr :=
  if csr = 0x001#12 then (if cfg.rv32fd then some .fflags else none)
  else if csr = 0x002#12 then (if cfg.rv32fd then some .frm else none)
  else if csr = 0x003#12 then (if cfg.rv32fd then some .fcsr else none)
  else if csr = 0xc00#12 ∨ csr = 0xc01#12 ∨ csr = 0xc02#12 then
    (if cfg.hasCounterCsrs then some .clockLow else none)
  else if csr = 0xc80#12 ∨ csr = 0xc81#12 ∨ csr = 0xc82#12 then
    (if cfg.hasCounterCsrs then some .clockHigh else none)
  else none

/-- Address bits 11..10 are `11`: the CSR is read-only (R35, R270). -/
def csrReadOnly (csr : BitVec 12) : Bool := csr.extractLsb' 10 2 == 0b11#2

/-- The value of a CSR, zero-extended (R34, R35, R270 step 3). -/
def State.readCsr (s : State) : Csr → Word
  | .fflags => zext s.fflags
  | .frm => zext s.frm
  | .fcsr => zext s.fcsr
  | .clockLow => s.clock.extractLsb' 0 32
  | .clockHigh => s.clock.extractLsb' 32 32

/-- Write a CSR; bits above its field are dropped (R31, R34). The counters are never written: their addresses are
read-only (R270 step 2). -/
def State.writeCsr (s : State) (v : Word) : Csr → State
  | .fflags => s.setFflags (v.extractLsb' 0 5)
  | .frm => s.setFrm (v.extractLsb' 0 3)
  | .fcsr => { s with fcsr := v.extractLsb' 0 8 }
  | .clockLow => s
  | .clockHigh => s

/-- The steps of R270: existence, write permission, read, write, then `x[rd]`. `writes` says whether the instruction
writes (R271), `reads` whether it reads, and `new` is the value written, from the old one. -/
def csrAccess (raw : Word) (csr : BitVec 12) (writes reads : Bool) (new : Word → Word) (rd : Reg) (s : State) :
    Result :=
  match csrAt s.cfg csr with
  | none => .next (takeTrap (.illegalInstruction raw) s)
  | some c =>
    if writes && csrReadOnly csr then .next (takeTrap (.illegalInstruction raw) s)
    else
      let old := if reads then s.readCsr c else 0#32
      let written := if writes then s.writeCsr (new old) c else s
      .next (retire 4#32 (written.setX rd old))

/-- R272: always writes; does not read when `rd` is `x0`. -/
def execCsrrw (rd : Reg) (csr : BitVec 12) (rs1 : Reg) (s : State) : Result :=
  csrAccess (Instr.raw (.csrrw rd csr rs1)) csr true (rd != 0) (fun _ => s.getX rs1) rd s

/-- R273: writes unless the `rs1` field is 0. -/
def execCsrrs (rd : Reg) (csr : BitVec 12) (rs1 : Reg) (s : State) : Result :=
  csrAccess (Instr.raw (.csrrs rd csr rs1)) csr (rs1 != 0) true (fun old => old ||| s.getX rs1) rd s

/-- R274: writes unless the `rs1` field is 0. -/
def execCsrrc (rd : Reg) (csr : BitVec 12) (rs1 : Reg) (s : State) : Result :=
  csrAccess (Instr.raw (.csrrc rd csr rs1)) csr (rs1 != 0) true (fun old => old &&& ~~~s.getX rs1) rd s

/-- R275: always writes; does not read when `rd` is `x0`. -/
def execCsrrwi (rd : Reg) (csr : BitVec 12) (uimm : BitVec 5) (s : State) : Result :=
  csrAccess (Instr.raw (.csrrwi rd csr uimm)) csr true (rd != 0) (fun _ => zext uimm) rd s

/-- R276: writes unless `uimm` is 0. -/
def execCsrrsi (rd : Reg) (csr : BitVec 12) (uimm : BitVec 5) (s : State) : Result :=
  csrAccess (Instr.raw (.csrrsi rd csr uimm)) csr (uimm != 0#5) true (fun old => old ||| zext uimm) rd s

/-- R277: writes unless `uimm` is 0. -/
def execCsrrci (rd : Reg) (csr : BitVec 12) (uimm : BitVec 5) (s : State) : Result :=
  csrAccess (Instr.raw (.csrrci rd csr uimm)) csr (uimm != 0#5) true (fun old => old &&& ~~~zext uimm) rd s

end Sys2Proof.Machine
end

