-- ==== Sys2Proof/Machine/FpKernel.lean ====
section
/-!
DEFINITION. The floating-point kernel of 46_fp_kernel.md (R300 to R325): pure functions from operand bits and a
rounding mode to result bits and the flags this one operation raised. A finite value is an exact magnitude
`mant * 2^exp`; where a quotient or a root has no such form, `sticky` says that the exact magnitude lies strictly
between `mant * 2^exp` and `(mant + 1) * 2^exp` (R325 allows this; log 15).
-/

namespace Sys2Proof.Machine

/-- The two formats (R301). -/
inductive Fmt where
  | single
  | double
deriving DecidableEq, Repr

/-- The width in bits (R301). -/
abbrev Fmt.width : Fmt → Nat
  | .single => 32
  | .double => 64

/-- The bits of the fraction field `F` (R301). -/
def Fmt.fracBits : Fmt → Nat
  | .single => 23
  | .double => 52

/-- The bits of the exponent field `E` (R301). -/
def Fmt.expBits : Fmt → Nat
  | .single => 8
  | .double => 11

/-- The precision `p` (R301). -/
def Fmt.prec (fmt : Fmt) : Nat := fmt.fracBits + 1

/-- `bias`, which is also `emax` (R301). -/
def Fmt.bias : Fmt → Nat
  | .single => 127
  | .double => 1023

/-- The greatest exponent (R301). -/
def Fmt.emax (fmt : Fmt) : Int := fmt.bias

/-- The least normal exponent (R301). -/
def Fmt.emin (fmt : Fmt) : Int := 1 - (fmt.bias : Int)

/-- `Emax` of R302, the exponent field of infinities and NaNs. -/
def Fmt.expMax (fmt : Fmt) : Nat := 2 ^ fmt.expBits - 1

namespace Kernel

/-! ### Fields and classes of a bit pattern (R302) -/

/-- The sign bit. -/
def sign {fmt : Fmt} (x : BitVec fmt.width) : Bool := x.getLsbD (fmt.width - 1)

/-- The exponent field `E`. -/
def expField {fmt : Fmt} (x : BitVec fmt.width) : Nat := x.toNat / 2 ^ fmt.fracBits % 2 ^ fmt.expBits

/-- The fraction field `F`. -/
def fracField {fmt : Fmt} (x : BitVec fmt.width) : Nat := x.toNat % 2 ^ fmt.fracBits

def isNaN {fmt : Fmt} (x : BitVec fmt.width) : Bool := expField x == fmt.expMax && fracField x != 0

/-- A NaN whose top fraction bit is 0 (R302, D42). -/
def isSignaling {fmt : Fmt} (x : BitVec fmt.width) : Bool := isNaN x && !x.getLsbD (fmt.fracBits - 1)

def isInf {fmt : Fmt} (x : BitVec fmt.width) : Bool := expField x == fmt.expMax && fracField x == 0

def isZero {fmt : Fmt} (x : BitVec fmt.width) : Bool := expField x == 0 && fracField x == 0

def isSubnormal {fmt : Fmt} (x : BitVec fmt.width) : Bool := expField x == 0 && fracField x != 0

/-- The significand of a finite value: its magnitude is `mant x * 2 ^ exponent x` (R302). -/
def mant {fmt : Fmt} (x : BitVec fmt.width) : Nat :=
  if expField x = 0 then fracField x else 2 ^ fmt.fracBits + fracField x

/-- The exponent of a finite value's significand (R302). -/
def exponent {fmt : Fmt} (x : BitVec fmt.width) : Int :=
  (max (expField x) 1 : Nat) - (fmt.bias : Int) - (fmt.fracBits : Int)

/-! ### Building patterns (R301 to R303) -/

/-- The sign bit's mask. -/
def signMask (fmt : Fmt) : BitVec fmt.width := BitVec.twoPow fmt.width (fmt.width - 1)

/-- The pattern with this sign and the exponent and fraction fields of `mag`. -/
def pack (fmt : Fmt) (s : Bool) (mag : Nat) : BitVec fmt.width :=
  BitVec.ofNat fmt.width mag ||| if s then signMask fmt else 0#_

def zero (fmt : Fmt) (s : Bool) : BitVec fmt.width := pack fmt s 0

def infinity (fmt : Fmt) (s : Bool) : BitVec fmt.width := pack fmt s (fmt.expMax * 2 ^ fmt.fracBits)

/-- `MAXF` with a sign. -/
def maxFinite (fmt : Fmt) (s : Bool) : BitVec fmt.width := pack fmt s (fmt.expMax * 2 ^ fmt.fracBits - 1)

/-- `cNaN` (R303). -/
def cNaN : (fmt : Fmt) → BitVec fmt.width
  | .single => 0x7fc00000#32
  | .double => 0x7ff8000000000000#64

/-- The pattern with its sign bit inverted (R312, R316). -/
def negate {fmt : Fmt} (x : BitVec fmt.width) : BitVec fmt.width := x ^^^ signMask fmt

/-! ### Rounding (R306 to R309) -/

/-- Round a magnitude that lies strictly between `n` and `n + 1` up (R307)? `odd`: `n` is odd; `above`, `tie`: the
part beyond `n` is more than, or exactly, one half. -/
def roundsUp (m : RoundingMode) (s odd above tie : Bool) : Bool :=
  match m with
  | .rne => above || (tie && odd)
  | .rtz => false
  | .rdn => s
  | .rup => !s
  | .rmm => above || tie

/-- `RInt` of R307 for the magnitude `mant * 2^exp` (and a little more with `sticky`) in units of `2^unit`; and
whether it was inexact. -/
def rint (m : RoundingMode) (s : Bool) (mant : Nat) (exp : Int) (sticky : Bool) (unit : Int) : Nat × Bool :=
  let scaled := mant * 2 ^ (exp - unit).toNat
  let one := 2 ^ (unit - exp).toNat
  let n := scaled / one
  let rest := scaled % one
  if rest = 0 ∧ sticky = false then (n, false)
  else
    let above := decide (one < 2 * rest) || (decide (2 * rest = one) && sticky)
    let tie := decide (2 * rest = one) && !sticky
    (if roundsUp m s (n % 2 == 1) above tie then n + 1 else n, true)

/-- Does an overflow give infinity (R308 step 2)? -/
def overflowsToInfinity (m : RoundingMode) (s : Bool) : Bool :=
  match m with
  | .rne => true
  | .rtz => false
  | .rdn => s
  | .rup => !s
  | .rmm => true

/-- `RoundPack` of R308 for a non-zero magnitude. -/
def roundPack (fmt : Fmt) (m : RoundingMode) (s : Bool) (mant : Nat) (exp : Int) (sticky : Bool) :
    BitVec fmt.width × FlagSet :=
  let p : Int := fmt.prec
  let e : Int := exp + mant.log2
  -- step 1: round with unbounded exponent
  let u := rint m s mant exp sticky (e - p + 1)
  let carry := u.1 == 2 ^ fmt.prec
  let e' : Int := if carry then e + 1 else e
  let n' : Nat := if carry then 2 ^ fmt.fracBits else u.1
  -- step 2: overflow
  if fmt.emax < e' then
    (if overflowsToInfinity m s then infinity fmt s else maxFinite fmt s, flagOF ||| flagNX)
  -- step 3: the subnormal range; tiny is decided after rounding (D20)
  else if e < fmt.emin then
    let d := rint m s mant exp sticky (fmt.emin - p + 1)
    (pack fmt s d.1, raiseIf d.2 flagNX ||| raiseIf (d.2 && decide (e' < fmt.emin)) flagUF)
  -- step 4: the normal range
  else
    (pack fmt s ((e' + fmt.bias).toNat * 2 ^ fmt.fracBits + (n' - 2 ^ fmt.fracBits)), raiseIf u.2 flagNX)

/-- The sign of an exact zero sum of operands that do not agree in sign (R309): minus under RDN only. -/
def cancelSign (m : RoundingMode) : Bool := m == .rdn

/-- `RoundPack` of the exact non-zero number `r * 2^exp`. -/
def roundInt (fmt : Fmt) (m : RoundingMode) (r : Int) (exp : Int) : BitVec fmt.width × FlagSet :=
  roundPack fmt m (decide (r < 0)) r.natAbs exp false

/-- The significand with its sign. -/
def signedMant (s : Bool) (mant : Nat) : Int := if s then -(mant : Int) else mant

/-- The exact sum of `a * 2^ea` and `b * 2^eb`, in units of `2 ^ min ea eb`. -/
def alignedSum (a : Int) (ea : Int) (b : Int) (eb : Int) : Int :=
  a * 2 ^ (ea - min ea eb).toNat + b * 2 ^ (eb - min ea eb).toNat

/-- The result of an operation with a NaN operand (R310, R317): `cNaN`, and NV when one was signaling. -/
def nanResult (fmt : Fmt) (signaling : Bool) : BitVec fmt.width × FlagSet :=
  (cNaN fmt, raiseIf signaling flagNV)

/-- The result of an invalid operation. -/
def invalid (fmt : Fmt) : BitVec fmt.width × FlagSet := (cNaN fmt, flagNV)

/-! ### Arithmetic (R311 to R316) -/

/-- R311. -/
def add (fmt : Fmt) (m : RoundingMode) (x y : BitVec fmt.width) : BitVec fmt.width × FlagSet :=
  if isNaN x || isNaN y then nanResult fmt (isSignaling x || isSignaling y)
  else if isInf x && isInf y && sign x != sign y then invalid fmt
  else if isInf x then (x, noFlags)
  else if isInf y then (y, noFlags)
  else
    let r := alignedSum (signedMant (sign x) (mant x)) (exponent x) (signedMant (sign y) (mant y)) (exponent y)
    if r = 0 then
      if isZero x && isZero y && sign x == sign y then (zero fmt (sign x), noFlags)
      else (zero fmt (cancelSign m), noFlags)
    else roundInt fmt m r (min (exponent x) (exponent y))

/-- R312. -/
def sub (fmt : Fmt) (m : RoundingMode) (x y : BitVec fmt.width) : BitVec fmt.width × FlagSet :=
  add fmt m x (negate y)

/-- R313. -/
def mul (fmt : Fmt) (m : RoundingMode) (x y : BitVec fmt.width) : BitVec fmt.width × FlagSet :=
  let s := sign x != sign y
  if isNaN x || isNaN y then nanResult fmt (isSignaling x || isSignaling y)
  else if isInf x && isZero y || isZero x && isInf y then invalid fmt
  else if isInf x || isInf y then (infinity fmt s, noFlags)
  else if isZero x || isZero y then (zero fmt s, noFlags)
  else roundPack fmt m s (mant x * mant y) (exponent x + exponent y) false

/-- R314. The quotient is taken to `2 * p + 3` places beyond the significands, which leaves more than `p` places
before the sticky part. -/
def div (fmt : Fmt) (m : RoundingMode) (x y : BitVec fmt.width) : BitVec fmt.width × FlagSet :=
  let s := sign x != sign y
  if isNaN x || isNaN y then nanResult fmt (isSignaling x || isSignaling y)
  else if isInf x && isInf y then invalid fmt
  else if isInf x then (infinity fmt s, noFlags)
  else if isInf y then (zero fmt s, noFlags)
  else if isZero x && isZero y then invalid fmt
  else if isZero y then (infinity fmt s, flagDZ)
  else if isZero x then (zero fmt s, noFlags)
  else
    let places := 2 * fmt.prec + 3
    let scaled := mant x * 2 ^ places
    roundPack fmt m s (scaled / mant y) (exponent x - exponent y - places) (scaled % mant y != 0)

/-- The greatest number whose square is at most `n`, above `acc`, by its bits from `2^(b-1)` down. -/
def isqrtFrom : Nat → Nat → Nat → Nat
  | 0, _, acc => acc
  | b + 1, n, acc => if (acc + 2 ^ b) * (acc + 2 ^ b) ≤ n then isqrtFrom b n (acc + 2 ^ b) else isqrtFrom b n acc

/-- The integer square root, rounded down. -/
def isqrt (n : Nat) : Nat := isqrtFrom (n.log2 / 2 + 1) n 0

/-- R315. The radicand is scaled by an even power of two so that its root has more than `p` places. -/
def sqrt (fmt : Fmt) (m : RoundingMode) (x : BitVec fmt.width) : BitVec fmt.width × FlagSet :=
  if isNaN x then nanResult fmt (isSignaling x)
  else if isZero x then (x, noFlags)
  else if sign x then invalid fmt
  else if isInf x then (x, noFlags)
  else
    let odd := exponent x % 2 == 1
    let places := fmt.prec + 2
    let scaled := (if odd then 2 * mant x else mant x) * 2 ^ (2 * places)
    let half := (if odd then exponent x - 1 else exponent x) / 2
    let root := isqrt scaled
    roundPack fmt m false root (half - places) (root * root != scaled)

/-- R316: `x * y + z` with one rounding. -/
def fma (fmt : Fmt) (m : RoundingMode) (x y z : BitVec fmt.width) : BitVec fmt.width × FlagSet :=
  let sp := sign x != sign y
  if isInf x && isZero y || isZero x && isInf y then invalid fmt
  else if isNaN x || isNaN y || isNaN z then nanResult fmt (isSignaling x || isSignaling y || isSignaling z)
  else if isInf x || isInf y then
    if isInf z && sign z != sp then invalid fmt else (infinity fmt sp, noFlags)
  else if isInf z then (z, noFlags)
  else
    let r := alignedSum (signedMant sp (mant x * mant y)) (exponent x + exponent y)
      (signedMant (sign z) (mant z)) (exponent z)
    if r = 0 then
      if (isZero x || isZero y) && isZero z && sp == sign z then (zero fmt sp, noFlags)
      else (zero fmt (cancelSign m), noFlags)
    else roundInt fmt m r (min (exponent x + exponent y) (exponent z))

/-! ### Minimum, maximum, comparison, classification, sign injection (R317 to R320) -/

/-- An integer ordered as the value of a non-NaN pattern is; both zeros have the key 0 (log 16). -/
def orderKey {fmt : Fmt} (x : BitVec fmt.width) : Int :=
  signedMant (sign x) (x.toNat % 2 ^ (fmt.width - 1))

/-- R317, `Min`. -/
def minNum (fmt : Fmt) (x y : BitVec fmt.width) : BitVec fmt.width × FlagSet :=
  let fl := raiseIf (isSignaling x || isSignaling y) flagNV
  if isNaN x && isNaN y then (cNaN fmt, fl)
  else if isNaN x then (y, fl)
  else if isNaN y then (x, fl)
  else if orderKey x < orderKey y || orderKey x == orderKey y && sign x then (x, fl)
  else (y, fl)

/-- R317, `Max`. -/
def maxNum (fmt : Fmt) (x y : BitVec fmt.width) : BitVec fmt.width × FlagSet :=
  let fl := raiseIf (isSignaling x || isSignaling y) flagNV
  if isNaN x && isNaN y then (cNaN fmt, fl)
  else if isNaN x then (y, fl)
  else if isNaN y then (x, fl)
  else if orderKey y < orderKey x || orderKey x == orderKey y && !sign x then (x, fl)
  else (y, fl)

/-- R318, `Eq`. -/
def eq (fmt : Fmt) (x y : BitVec fmt.width) : Bool × FlagSet :=
  if isNaN x || isNaN y then (false, raiseIf (isSignaling x || isSignaling y) flagNV)
  else (orderKey x == orderKey y, noFlags)

/-- R318, `Lt`. -/
def lt (fmt : Fmt) (x y : BitVec fmt.width) : Bool × FlagSet :=
  if isNaN x || isNaN y then (false, flagNV)
  else (decide (orderKey x < orderKey y), noFlags)

/-- R318, `Le`. -/
def le (fmt : Fmt) (x y : BitVec fmt.width) : Bool × FlagSet :=
  if isNaN x || isNaN y then (false, flagNV)
  else (decide (orderKey x ≤ orderKey y), noFlags)

/-- R319, the number of the one bit that is set. -/
def classBit {fmt : Fmt} (x : BitVec fmt.width) : Nat :=
  if isNaN x then (if isSignaling x then 8 else 9)
  else if isInf x then (if sign x then 0 else 7)
  else if isZero x then (if sign x then 3 else 4)
  else if isSubnormal x then (if sign x then 2 else 5)
  else (if sign x then 1 else 6)

/-- R319, `Class`. -/
def classify (fmt : Fmt) (x : BitVec fmt.width) : Word := 1#32 <<< classBit x

/-- The pattern with its sign bit replaced. -/
def withSign {fmt : Fmt} (s : Bool) (x : BitVec fmt.width) : BitVec fmt.width :=
  (x &&& ~~~signMask fmt) ||| if s then signMask fmt else 0#_

/-- R320, `Sgnj`. -/
def sgnj (fmt : Fmt) (x y : BitVec fmt.width) : BitVec fmt.width := withSign (sign y) x

/-- R320, `Sgnjn`. -/
def sgnjn (fmt : Fmt) (x y : BitVec fmt.width) : BitVec fmt.width := withSign (!sign y) x

/-- R320, `Sgnjx`. -/
def sgnjx (fmt : Fmt) (x y : BitVec fmt.width) : BitVec fmt.width := withSign (sign x != sign y) x

/-! ### Conversions (R321 to R324) -/

/-- The conversion between formats: R321 and R322 in one, since a single is always exact in double. -/
def convert (src dst : Fmt) (m : RoundingMode) (x : BitVec src.width) : BitVec dst.width × FlagSet :=
  if isNaN x then nanResult dst (isSignaling x)
  else if isInf x then (infinity dst (sign x), noFlags)
  else if isZero x then (zero dst (sign x), noFlags)
  else roundPack dst m (sign x) (mant x) (exponent x) false

/-- R321, `CvtSD`: exact, whatever the rounding mode. -/
def cvtSD (x : Word) : DWord × FlagSet := convert .single .double .rne x

/-- R322, `CvtDS`. -/
def cvtDS (m : RoundingMode) (x : DWord) : Word × FlagSet := convert .double .single m x

/-- The range of a 32-bit integer (R323). -/
def intLow (signed : Bool) : Int := if signed then -2147483648 else 0

def intHigh (signed : Bool) : Int := if signed then 2147483647 else 4294967295

/-- R323, `CvtFI`. -/
def cvtFI (fmt : Fmt) (m : RoundingMode) (x : BitVec fmt.width) (signed : Bool) : Word × FlagSet :=
  if isNaN x then (BitVec.ofInt 32 (intHigh signed), flagNV)
  else if isInf x then (BitVec.ofInt 32 (if sign x then intLow signed else intHigh signed), flagNV)
  else
    let r := rint m (sign x) (mant x) (exponent x) false 0
    let n := signedMant (sign x) r.1
    if n < intLow signed then (BitVec.ofInt 32 (intLow signed), flagNV)
    else if intHigh signed < n then (BitVec.ofInt 32 (intHigh signed), flagNV)
    else (BitVec.ofInt 32 n, raiseIf r.2 flagNX)

/-- R324, `CvtIF`. -/
def cvtIF (fmt : Fmt) (m : RoundingMode) (n : Word) (signed : Bool) : BitVec fmt.width × FlagSet :=
  let i : Int := if signed then n.toInt else n.toNat
  if i = 0 then (zero fmt false, noFlags) else roundInt fmt m i 0

end Kernel

end Sys2Proof.Machine
end

