-- ==== Sys2Proof/Machine/FpOps.lean ====
section
/-!
DEFINITION. The shapes the floating-point instructions share (47_f_single.md R370 to R373, 48_d_double.md R410): the
rounding mode is resolved first, the result is written, the flags are accumulated, `pc` advances by 4.
-/

namespace Sys2Proof.Machine

/-- Write a single and accumulate the flags (R371, R372, R373). -/
def finishS (rd : FReg) (r : Word × FlagSet) (s : State) : Result :=
  .next (retire 4#32 ((s.writeS rd r.1).accrue r.2))

/-- Write a double and accumulate the flags (R372, R373, R410). -/
def finishD (rd : FReg) (r : DWord × FlagSet) (s : State) : Result :=
  .next (retire 4#32 ((s.setF rd r.1).accrue r.2))

/-- Write an integer register and accumulate the flags, also when `rd` is `x0` (R371, R372). -/
def finishX (rd : Reg) (r : Word × FlagSet) (s : State) : Result :=
  .next (retire 4#32 ((s.setX rd r.1).accrue r.2))

/-- The result of a comparison as 1 or 0 (R318, R393). -/
def asWord (r : Bool × FlagSet) : Word × FlagSet := (flagWord r.1, r.2)

end Sys2Proof.Machine
end

