-- ==== Sys2Proof/Machine/FloatDouble.lean ====
section
/-!
DEFINITION. The D extension (48_d_double.md R410 to R437). Double sources and results are the raw 64 bits (R410).
-/

namespace Sys2Proof.Machine

/-- R412. -/
def execFld (rd : FReg) (rs1 : Reg) (imm : BitVec 12) (s : State) : Result :=
  loadD 4#32 rd (s.ea rs1 imm) s

/-- R413. -/
def execFsd (rs1 : Reg) (rs2 : FReg) (imm : BitVec 12) (s : State) : Result :=
  storeBytes 4#32 8 (s.ea rs1 imm) (s.getF rs2) s

/-- R414. `rs1 * rs2 + rs3`. -/
def execFmaddD (rd rs1 rs2 rs3 : FReg) (rm : BitVec 3) (s : State) : Result :=
  withRm rm (Instr.raw (.fmaddD rd rs1 rs2 rs3 rm)) s fun m =>
    finishD rd (Kernel.fma .double m (s.getF rs1) (s.getF rs2) (s.getF rs3)) s

/-- R415. `rs1 * rs2 - rs3`. -/
def execFmsubD (rd rs1 rs2 rs3 : FReg) (rm : BitVec 3) (s : State) : Result :=
  withRm rm (Instr.raw (.fmsubD rd rs1 rs2 rs3 rm)) s fun m =>
    finishD rd (Kernel.fma .double m (s.getF rs1) (s.getF rs2) (Kernel.negate (fmt := .double) (s.getF rs3))) s

/-- R416. `-(rs1 * rs2) + rs3`. -/
def execFnmsubD (rd rs1 rs2 rs3 : FReg) (rm : BitVec 3) (s : State) : Result :=
  withRm rm (Instr.raw (.fnmsubD rd rs1 rs2 rs3 rm)) s fun m =>
    finishD rd (Kernel.fma .double m (Kernel.negate (fmt := .double) (s.getF rs1)) (s.getF rs2) (s.getF rs3)) s

/-- R417. `-(rs1 * rs2) - rs3`. -/
def execFnmaddD (rd rs1 rs2 rs3 : FReg) (rm : BitVec 3) (s : State) : Result :=
  withRm rm (Instr.raw (.fnmaddD rd rs1 rs2 rs3 rm)) s fun m =>
    finishD rd (Kernel.fma .double m (Kernel.negate (fmt := .double) (s.getF rs1)) (s.getF rs2) (Kernel.negate (fmt := .double) (s.getF rs3))) s

/-- R418. -/
def execFaddD (rd rs1 rs2 : FReg) (rm : BitVec 3) (s : State) : Result :=
  withRm rm (Instr.raw (.faddD rd rs1 rs2 rm)) s fun m =>
    finishD rd (Kernel.add .double m (s.getF rs1) (s.getF rs2)) s

/-- R419. -/
def execFsubD (rd rs1 rs2 : FReg) (rm : BitVec 3) (s : State) : Result :=
  withRm rm (Instr.raw (.fsubD rd rs1 rs2 rm)) s fun m =>
    finishD rd (Kernel.sub .double m (s.getF rs1) (s.getF rs2)) s

/-- R420. -/
def execFmulD (rd rs1 rs2 : FReg) (rm : BitVec 3) (s : State) : Result :=
  withRm rm (Instr.raw (.fmulD rd rs1 rs2 rm)) s fun m =>
    finishD rd (Kernel.mul .double m (s.getF rs1) (s.getF rs2)) s

/-- R421. -/
def execFdivD (rd rs1 rs2 : FReg) (rm : BitVec 3) (s : State) : Result :=
  withRm rm (Instr.raw (.fdivD rd rs1 rs2 rm)) s fun m =>
    finishD rd (Kernel.div .double m (s.getF rs1) (s.getF rs2)) s

/-- R422. -/
def execFsqrtD (rd rs1 : FReg) (rm : BitVec 3) (s : State) : Result :=
  withRm rm (Instr.raw (.fsqrtD rd rs1 rm)) s fun m =>
    finishD rd (Kernel.sqrt .double m (s.getF rs1)) s

/-- R423. A bit operation on the raw registers. -/
def execFsgnjD (rd rs1 rs2 : FReg) (s : State) : Result :=
  finishD rd (Kernel.sgnj .double (s.getF rs1) (s.getF rs2), noFlags) s

/-- R424. -/
def execFsgnjnD (rd rs1 rs2 : FReg) (s : State) : Result :=
  finishD rd (Kernel.sgnjn .double (s.getF rs1) (s.getF rs2), noFlags) s

/-- R425. -/
def execFsgnjxD (rd rs1 rs2 : FReg) (s : State) : Result :=
  finishD rd (Kernel.sgnjx .double (s.getF rs1) (s.getF rs2), noFlags) s

/-- R426. -/
def execFminD (rd rs1 rs2 : FReg) (s : State) : Result :=
  finishD rd (Kernel.minNum .double (s.getF rs1) (s.getF rs2)) s

/-- R427. -/
def execFmaxD (rd rs1 rs2 : FReg) (s : State) : Result :=
  finishD rd (Kernel.maxNum .double (s.getF rs1) (s.getF rs2)) s

/-- R428. -/
def execFcvtSD (rd rs1 : FReg) (rm : BitVec 3) (s : State) : Result :=
  withRm rm (Instr.raw (.fcvtSD rd rs1 rm)) s fun m =>
    finishS rd (Kernel.cvtDS m (s.getF rs1)) s

/-- R429. The mode is checked although the conversion is exact (D19). -/
def execFcvtDS (rd rs1 : FReg) (rm : BitVec 3) (s : State) : Result :=
  withRm rm (Instr.raw (.fcvtDS rd rs1 rm)) s fun _ =>
    finishD rd (Kernel.cvtSD (s.readS rs1)) s

/-- R430. -/
def execFeqD (rd : Reg) (rs1 rs2 : FReg) (s : State) : Result :=
  finishX rd (asWord (Kernel.eq .double (s.getF rs1) (s.getF rs2))) s

/-- R431. -/
def execFltD (rd : Reg) (rs1 rs2 : FReg) (s : State) : Result :=
  finishX rd (asWord (Kernel.lt .double (s.getF rs1) (s.getF rs2))) s

/-- R432. -/
def execFleD (rd : Reg) (rs1 rs2 : FReg) (s : State) : Result :=
  finishX rd (asWord (Kernel.le .double (s.getF rs1) (s.getF rs2))) s

/-- R433. -/
def execFclassD (rd : Reg) (rs1 : FReg) (s : State) : Result :=
  finishX rd (Kernel.classify .double (s.getF rs1), noFlags) s

/-- R434. -/
def execFcvtWD (rd : Reg) (rs1 : FReg) (rm : BitVec 3) (s : State) : Result :=
  withRm rm (Instr.raw (.fcvtWD rd rs1 rm)) s fun m =>
    finishX rd (Kernel.cvtFI .double m (s.getF rs1) true) s

/-- R435. -/
def execFcvtWuD (rd : Reg) (rs1 : FReg) (rm : BitVec 3) (s : State) : Result :=
  withRm rm (Instr.raw (.fcvtWuD rd rs1 rm)) s fun m =>
    finishX rd (Kernel.cvtFI .double m (s.getF rs1) false) s

/-- R436. The mode is checked although the conversion is exact (D19). -/
def execFcvtDW (rd : FReg) (rs1 : Reg) (rm : BitVec 3) (s : State) : Result :=
  withRm rm (Instr.raw (.fcvtDW rd rs1 rm)) s fun m =>
    finishD rd (Kernel.cvtIF .double m (s.getX rs1) true) s

/-- R437. The mode is checked although the conversion is exact (D19). -/
def execFcvtDWu (rd : FReg) (rs1 : Reg) (rm : BitVec 3) (s : State) : Result :=
  withRm rm (Instr.raw (.fcvtDWu rd rs1 rm)) s fun m =>
    finishD rd (Kernel.cvtIF .double m (s.getX rs1) false) s

end Sys2Proof.Machine
end

