-- ==== Sys2Proof/Machine/FloatSingle.lean ====
section
/-!
DEFINITION. The F extension (47_f_single.md R370 to R399). Every single-precision source but those of `fsw` and `fmv.x.w` is
read with `ReadS`, every single result is boxed (R371).
-/

namespace Sys2Proof.Machine

/-- R374. -/
def execFlw (rd : FReg) (rs1 : Reg) (imm : BitVec 12) (s : State) : Result :=
  loadS 4#32 rd (s.ea rs1 imm) s

/-- R375. The low half is stored with no box check (R29, D23). -/
def execFsw (rs1 : Reg) (rs2 : FReg) (imm : BitVec 12) (s : State) : Result :=
  storeBytes 4#32 4 (s.ea rs1 imm) (s.lowF rs2) s

/-- R376. `rs1 * rs2 + rs3`. -/
def execFmaddS (rd rs1 rs2 rs3 : FReg) (rm : BitVec 3) (s : State) : Result :=
  withRm rm (Instr.raw (.fmaddS rd rs1 rs2 rs3 rm)) s fun m =>
    finishS rd (Kernel.fma .single m (s.readS rs1) (s.readS rs2) (s.readS rs3)) s

/-- R377. `rs1 * rs2 - rs3`. -/
def execFmsubS (rd rs1 rs2 rs3 : FReg) (rm : BitVec 3) (s : State) : Result :=
  withRm rm (Instr.raw (.fmsubS rd rs1 rs2 rs3 rm)) s fun m =>
    finishS rd (Kernel.fma .single m (s.readS rs1) (s.readS rs2) (Kernel.negate (fmt := .single) (s.readS rs3))) s

/-- R378. `-(rs1 * rs2) + rs3`. -/
def execFnmsubS (rd rs1 rs2 rs3 : FReg) (rm : BitVec 3) (s : State) : Result :=
  withRm rm (Instr.raw (.fnmsubS rd rs1 rs2 rs3 rm)) s fun m =>
    finishS rd (Kernel.fma .single m (Kernel.negate (fmt := .single) (s.readS rs1)) (s.readS rs2) (s.readS rs3)) s

/-- R379. `-(rs1 * rs2) - rs3`. -/
def execFnmaddS (rd rs1 rs2 rs3 : FReg) (rm : BitVec 3) (s : State) : Result :=
  withRm rm (Instr.raw (.fnmaddS rd rs1 rs2 rs3 rm)) s fun m =>
    finishS rd (Kernel.fma .single m (Kernel.negate (fmt := .single) (s.readS rs1)) (s.readS rs2) (Kernel.negate (fmt := .single) (s.readS rs3))) s

/-- R380. -/
def execFaddS (rd rs1 rs2 : FReg) (rm : BitVec 3) (s : State) : Result :=
  withRm rm (Instr.raw (.faddS rd rs1 rs2 rm)) s fun m =>
    finishS rd (Kernel.add .single m (s.readS rs1) (s.readS rs2)) s

/-- R381. -/
def execFsubS (rd rs1 rs2 : FReg) (rm : BitVec 3) (s : State) : Result :=
  withRm rm (Instr.raw (.fsubS rd rs1 rs2 rm)) s fun m =>
    finishS rd (Kernel.sub .single m (s.readS rs1) (s.readS rs2)) s

/-- R382. -/
def execFmulS (rd rs1 rs2 : FReg) (rm : BitVec 3) (s : State) : Result :=
  withRm rm (Instr.raw (.fmulS rd rs1 rs2 rm)) s fun m =>
    finishS rd (Kernel.mul .single m (s.readS rs1) (s.readS rs2)) s

/-- R383. -/
def execFdivS (rd rs1 rs2 : FReg) (rm : BitVec 3) (s : State) : Result :=
  withRm rm (Instr.raw (.fdivS rd rs1 rs2 rm)) s fun m =>
    finishS rd (Kernel.div .single m (s.readS rs1) (s.readS rs2)) s

/-- R384. -/
def execFsqrtS (rd rs1 : FReg) (rm : BitVec 3) (s : State) : Result :=
  withRm rm (Instr.raw (.fsqrtS rd rs1 rm)) s fun m =>
    finishS rd (Kernel.sqrt .single m (s.readS rs1)) s

/-- R385. A bit operation on the `ReadS` values: no flag, no canonical NaN. -/
def execFsgnjS (rd rs1 rs2 : FReg) (s : State) : Result :=
  finishS rd (Kernel.sgnj .single (s.readS rs1) (s.readS rs2), noFlags) s

/-- R386. -/
def execFsgnjnS (rd rs1 rs2 : FReg) (s : State) : Result :=
  finishS rd (Kernel.sgnjn .single (s.readS rs1) (s.readS rs2), noFlags) s

/-- R387. -/
def execFsgnjxS (rd rs1 rs2 : FReg) (s : State) : Result :=
  finishS rd (Kernel.sgnjx .single (s.readS rs1) (s.readS rs2), noFlags) s

/-- R388. -/
def execFminS (rd rs1 rs2 : FReg) (s : State) : Result :=
  finishS rd (Kernel.minNum .single (s.readS rs1) (s.readS rs2)) s

/-- R389. -/
def execFmaxS (rd rs1 rs2 : FReg) (s : State) : Result :=
  finishS rd (Kernel.maxNum .single (s.readS rs1) (s.readS rs2)) s

/-- R390. -/
def execFcvtWS (rd : Reg) (rs1 : FReg) (rm : BitVec 3) (s : State) : Result :=
  withRm rm (Instr.raw (.fcvtWS rd rs1 rm)) s fun m =>
    finishX rd (Kernel.cvtFI .single m (s.readS rs1) true) s

/-- R391. -/
def execFcvtWuS (rd : Reg) (rs1 : FReg) (rm : BitVec 3) (s : State) : Result :=
  withRm rm (Instr.raw (.fcvtWuS rd rs1 rm)) s fun m =>
    finishX rd (Kernel.cvtFI .single m (s.readS rs1) false) s

/-- R392. No box check (R29, D23). -/
def execFmvXW (rd : Reg) (rs1 : FReg) (s : State) : Result :=
  finishX rd (s.lowF rs1, noFlags) s

/-- R393. -/
def execFeqS (rd : Reg) (rs1 rs2 : FReg) (s : State) : Result :=
  finishX rd (asWord (Kernel.eq .single (s.readS rs1) (s.readS rs2))) s

/-- R394. -/
def execFltS (rd : Reg) (rs1 rs2 : FReg) (s : State) : Result :=
  finishX rd (asWord (Kernel.lt .single (s.readS rs1) (s.readS rs2))) s

/-- R395. -/
def execFleS (rd : Reg) (rs1 rs2 : FReg) (s : State) : Result :=
  finishX rd (asWord (Kernel.le .single (s.readS rs1) (s.readS rs2))) s

/-- R396. -/
def execFclassS (rd : Reg) (rs1 : FReg) (s : State) : Result :=
  finishX rd (Kernel.classify .single (s.readS rs1), noFlags) s

/-- R397. -/
def execFcvtSW (rd : FReg) (rs1 : Reg) (rm : BitVec 3) (s : State) : Result :=
  withRm rm (Instr.raw (.fcvtSW rd rs1 rm)) s fun m =>
    finishS rd (Kernel.cvtIF .single m (s.getX rs1) true) s

/-- R398. -/
def execFcvtSWu (rd : FReg) (rs1 : Reg) (rm : BitVec 3) (s : State) : Result :=
  withRm rm (Instr.raw (.fcvtSWu rd rs1 rm)) s fun m =>
    finishS rd (Kernel.cvtIF .single m (s.getX rs1) false) s

/-- R399. -/
def execFmvWX (rd : FReg) (rs1 : Reg) (s : State) : Result :=
  finishS rd (s.getX rs1, noFlags) s

end Sys2Proof.Machine
end

