-- ==== Sys2Proof/Machine/MulDiv.lean ====
section
/-!
DEFINITION. Integer multiply and divide (41_m_extension.md R190 to R198). Operands are converted to integers, the
result is computed exactly and narrowed at the end. None of them traps, makes a data access or touches a flag (R190).
-/

namespace Sys2Proof.Machine

/-- Bits 63..32 of the 64-bit two's-complement number (R192 to R194). -/
def highWord (product : Int) : Word := (BitVec.ofInt 64 product).extractLsb' 32 32

/-- R195: the quotient rounded toward zero; -1 for a zero divisor; INT_MIN on overflow. -/
def divSigned (a b : Word) : Word :=
  if b = 0#32 then 0xffffffff#32
  else if a.toInt = -2147483648 ∧ b.toInt = -1 then 0x80000000#32
  else BitVec.ofInt 32 (Int.tdiv a.toInt b.toInt)

/-- R196: the quotient rounded down; all ones for a zero divisor. -/
def divUnsigned (a b : Word) : Word :=
  if b = 0#32 then 0xffffffff#32 else BitVec.ofNat 32 (a.toNat / b.toNat)

/-- R197: the remainder with the dividend's sign; the dividend for a zero divisor; 0 on overflow. -/
def remSigned (a b : Word) : Word :=
  if b = 0#32 then a
  else if a.toInt = -2147483648 ∧ b.toInt = -1 then 0#32
  else BitVec.ofInt 32 (a.toInt - b.toInt * Int.tdiv a.toInt b.toInt)

/-- R198: the unsigned remainder; the dividend for a zero divisor. -/
def remUnsigned (a b : Word) : Word :=
  if b = 0#32 then a else BitVec.ofNat 32 (a.toNat % b.toNat)

/-- R191. -/
def execMul (rd rs1 rs2 : Reg) (s : State) : Result :=
  writeX 4#32 rd (s.getX rs1 * s.getX rs2) s

/-- R192. -/
def execMulh (rd rs1 rs2 : Reg) (s : State) : Result :=
  writeX 4#32 rd (highWord ((s.getX rs1).toInt * (s.getX rs2).toInt)) s

/-- R193: `rs1` is the signed operand. -/
def execMulhsu (rd rs1 rs2 : Reg) (s : State) : Result :=
  writeX 4#32 rd (highWord ((s.getX rs1).toInt * (s.getX rs2).toNat)) s

/-- R194. -/
def execMulhu (rd rs1 rs2 : Reg) (s : State) : Result :=
  writeX 4#32 rd (highWord ((s.getX rs1).toNat * (s.getX rs2).toNat)) s

/-- R195. -/
def execDiv (rd rs1 rs2 : Reg) (s : State) : Result :=
  writeX 4#32 rd (divSigned (s.getX rs1) (s.getX rs2)) s

/-- R196. -/
def execDivu (rd rs1 rs2 : Reg) (s : State) : Result :=
  writeX 4#32 rd (divUnsigned (s.getX rs1) (s.getX rs2)) s

/-- R197. -/
def execRem (rd rs1 rs2 : Reg) (s : State) : Result :=
  writeX 4#32 rd (remSigned (s.getX rs1) (s.getX rs2)) s

/-- R198. -/
def execRemu (rd rs1 rs2 : Reg) (s : State) : Result :=
  writeX 4#32 rd (remUnsigned (s.getX rs1) (s.getX rs2)) s

end Sys2Proof.Machine
end

