-- ==== Sys2Proof/Machine/Step.lean ====
section
/-!
DEFINITION. One step (60_exceptions.md R500), and the placing of one instruction where the next step fetches it.
-/

namespace Sys2Proof.Machine

/-- One step: fetch, decode, execute (R500). Every trap is a next state (R504, log 9). The requests of the step before
are forgotten first (log 7). -/
def step (s : State) : Host.Outcome State Fault Refusal :=
  match fetchCode { s with bus := [] } with
  | .trapped t s1 => .next (takeTrap t s1)
  | .code c s1 =>
    match decode s1.cfg c with
    | .error _ => .next (takeTrap (.illegalInstruction c.raw) s1)
    | .ok i => exec i s1

/-- The state with one instruction stored at `pc`, little-endian, its low `nbits` bits those of `w` and the rest of
its four bytes 0; where the platform would refuse to fetch them, a region that accepts it is added (log 17, log 18). -/
def State.withFetchWord (s : State) (nbits w : Nat) : State :=
  { s with
    mem := writeBytes 4 s.mem s.pc (BitVec.ofNat 32 (w % 2 ^ nbits))
    map :=
      if accepts s.map .fetch s.pc 4 then s.map
      else { base := s.pc, size := 4, fetch := true, load := false, store := false } :: s.map }

end Sys2Proof.Machine
end

