-- ==== Sys2Proof/Machine/HostAccess.lean ====
section
/-!
DEFINITION. What the host may do to the core between two steps (00_scope.md R12, 70_reset_and_hazards.md R551) and the
platform to its memory and map (20_memory.md R82). No step takes one of these actions; they happen between steps only
(log 13). Returning from a trap is `resumeAt` and `resumePast` of Ops.lean.
-/

namespace Sys2Proof.Machine

/-- One write by the host or the platform (R12, R82, D33). Reading needs no action: State is plain data. -/
inductive HostAction where
  /-- Write an integer register; `x[0]` stays 0 (R22, log 24). -/
  | setX (r : Reg) (v : Word)
  /-- Write the 64 bits of a floating-point register. -/
  | setF (r : FReg) (v : DWord)
  /-- Write `pc`, aligned or not (R506); also how a trap is returned from (R510). -/
  | setPc (v : Word)
  /-- Write `fcsr`; the value is masked to 8 bits (R31). -/
  | setFcsr (v : Word)
  /-- Write a trap-state register (R36). -/
  | setMcause (v : Word)
  | setMepc (v : Word)
  | setMtval (v : Word)
  /-- Write the reservation slot (R38). -/
  | setReservation (r : Option Word)
  /-- Write Clock, where CLOCK_HOST_WRITABLE allows it (D27). -/
  | setClock (v : BitVec 64)
  /-- Write one byte of memory; the core cannot see it, so the reservation stays (R82). -/
  | setByte (a : Word) (b : Byte)
  /-- Change what the platform accepts (R60). -/
  | setMap (map : List Region)
  /-- Reset (R550, R551); memory and map are not part of the core and stay. -/
  | reset
deriving DecidableEq, Repr

/-- Write Clock if the parameter allows it (D27). -/
def hostSetClock (v : BitVec 64) (s : State) : State :=
  if s.cfg.clockHostWritable then { s with clock := v } else s

/-- Reset as a host action (R551). -/
def hostReset (s : State) : State :=
  { State.resetWith s.cfg with map := s.map, mem := s.mem }

/-- The state after a host action. -/
def hostApply (a : HostAction) (s : State) : State :=
  match a with
  | .setX r v => s.setX r v
  | .setF r v => s.setF r v
  | .setPc v => resumeAt v s
  | .setFcsr v => { s with fcsr := v.extractLsb' 0 8 }
  | .setMcause v => { s with mcause := v }
  | .setMepc v => { s with mepc := v }
  | .setMtval v => { s with mtval := v }
  | .setReservation r => { s with reservation := r }
  | .setClock v => hostSetClock v s
  | .setByte ad b => { s with mem := Memory.write s.mem ad.toNat b }
  | .setMap m => { s with map := m }
  | .reset => hostReset s

end Sys2Proof.Machine
end

