-- ==== Sys2Proof/Safety.lean ====
section
/-!
DEFINITION. The terms statements about the machine use: what one committed instruction changes and leaves unchanged
(`Effect`, `Commits`), what a trap leaves behind (`Trapped`), what a host action does (`HostWrites`), the invariant
that every step keeps (`Inv`), and which instructions may store, jump or write a CSR.
-/

namespace Sys2Proof.Machine

/-- The byte at an address. -/
def State.byteAt (s : State) (a : Word) : Byte := Memory.read s.mem a.toNat

/-- A store: `width` bytes from `addr` on, addresses modulo 2^32; byte `i` holds bits `8i+7..8i` of `value` (R62). -/
structure Stored where
  addr : Word
  width : Nat
  value : Nat
deriving DecidableEq, Repr

/-- What a committed instruction does to the state `s`; every default is "unchanged". -/
structure Effect (s : State) where
  /-- The address of the next instruction. -/
  next : Word
  /-- The integer register written, with its value; a write of register 0 is discarded (R22). -/
  x : Option (Reg × Word) := none
  /-- The floating-point register written, with its value. -/
  f : Option (FReg × DWord) := none
  /-- `fcsr` afterwards. -/
  fcsr : BitVec 8 := s.fcsr
  /-- The reservation slot afterwards. -/
  reservation : Option Word := s.reservation
  /-- The bytes stored. -/
  store : Option Stored := none
  /-- The requests made on the memory interface, in order. -/
  requests : List Request := []

/-- An integer register after the effect. -/
def Effect.xAfter {s : State} (e : Effect s) (r : Reg) : Word :=
  match e.x with
  | some (rd, v) => if r = 0 then 0#32 else if r = rd then v else s.getX r
  | none => s.getX r

/-- A floating-point register after the effect. -/
def Effect.fAfter {s : State} (e : Effect s) (r : FReg) : DWord :=
  match e.f with
  | some (rd, v) => if r = rd then v else s.getF r
  | none => s.getF r

/-- A byte of memory after the effect. -/
def Effect.byteAfter {s : State} (e : Effect s) (a : Word) : Byte :=
  match e.store with
  | some st =>
    if (a - st.addr).toNat < st.width then BitVec.ofNat 8 (st.value >>> (8 * (a - st.addr).toNat)) else s.byteAt a
  | none => s.byteAt a

/-- The outcome is a next state in which the instruction has committed with exactly this effect: what the effect names
has changed as it says, `Clock` has counted the step (R39), and everything else is as it was. -/
def Commits (s : State) (e : Effect s) (r : Result) : Prop :=
  ∃ t, r = .next t ∧
    (∀ k, t.getX k = e.xAfter k) ∧
    (∀ k, t.getF k = e.fAfter k) ∧
    (∀ a, t.byteAt a = e.byteAfter a) ∧
    t.pc = e.next ∧ t.clock = s.clock + 1#64 ∧ t.answer = .ok ∧
    t.fcsr = e.fcsr ∧ t.reservation = e.reservation ∧
    t.mcause = s.mcause ∧ t.mepc = s.mepc ∧ t.mtval = s.mtval ∧
    t.bus = s.bus ++ e.requests ∧ t.cfg = s.cfg ∧ t.map = s.map

/-- The state after the trap `tr` at `s` (R503, R504): the three trap registers and the answer are written, the
requests made so far are logged, and nothing else has changed. -/
def Trapped (s : State) (tr : Trap) (requests : List Request) : Result :=
  .next { s with
    mcause := tr.code, mepc := s.pc, mtval := tr.value, answer := .err tr, bus := s.bus ++ requests }

/-! ### The outcomes the instruction families share -/

/-- The little-endian values at an address (R62, R66). -/
def State.halfAt (s : State) (a : Word) : Half := s.byteAt (a + 1#32) ++ s.byteAt a
def State.wordAt (s : State) (a : Word) : Word := s.halfAt (a + 2#32) ++ s.halfAt a
def State.doubleAt (s : State) (a : Word) : DWord := s.wordAt (a + 4#32) ++ s.wordAt a

/-- A conditional branch (R200, R205): on to `pc + ilen` where the condition is false, whatever the target; to the
target where it is true and the target is aligned; the trap, with the target as its value, where it is not. -/
def Branches (s : State) (ilen : Word) (cond : Prop) (target : Word) (r : Result) : Prop :=
  (¬cond → Commits s { next := s.pc + ilen } r) ∧
  (cond → aligned target s.cfg.ialign = true → Commits s { next := target } r) ∧
  (cond → aligned target s.cfg.ialign = false → r = Trapped s (.instructionAddressMisaligned target) [])

/-- A jump (R200, R201): the link register and `pc` are written where the target is aligned, else neither. -/
def Jumps (s : State) (ilen : Word) (rd : Reg) (target : Word) (r : Result) : Prop :=
  (aligned target s.cfg.ialign = true → Commits s { next := target, x := some (rd, s.pc + ilen) } r) ∧
  (aligned target s.cfg.ialign = false → r = Trapped s (.instructionAddressMisaligned target) [])

/-- A load of `n` bytes (R221): with the effect `e` and its one request where the address is aligned and the platform
accepts; else one of the two traps, the misaligned one without a request. -/
def Loads (s : State) (n : Nat) (ea : Word) (e : Effect s) (r : Result) : Prop :=
  (aligned ea n = true → accepts s.map .load ea n = true → Commits s { e with requests := [.load ea n] } r) ∧
  (aligned ea n = true → accepts s.map .load ea n = false → r = Trapped s (.loadAccessFault ea) [.load ea n]) ∧
  (aligned ea n = false → r = Trapped s (.loadAddressMisaligned ea) [])

/-- A store of the low `n` bytes of `v` (R221, R241 b). -/
def Stores (s : State) (ilen : Word) (n : Nat) (ea : Word) (v : Nat) (r : Result) : Prop :=
  (aligned ea n = true → accepts s.map .store ea n = true →
    Commits s
      { next := s.pc + ilen, store := some ⟨ea, n, v % 2 ^ (8 * n)⟩,
        reservation := reservationAfterStore ea n s.reservation, requests := [.store ea n (v % 2 ^ (8 * n))] } r) ∧
  (aligned ea n = true → accepts s.map .store ea n = false →
    r = Trapped s (.storeAccessFault ea) [.store ea n (v % 2 ^ (8 * n))]) ∧
  (aligned ea n = false → r = Trapped s (.storeAddressMisaligned ea) [])

/-- An AMO at an aligned address (R243, R246): `new` is stored, `x[rd]` gets the old word; a refused read or write is a
trap that leaves memory, `x[rd]` and the reservation alone. -/
def Amo (s : State) (rd rs1 : Reg) (new : Word) (r : Result) : Prop :=
  let ea := s.getX rs1
  (accepts s.map .load ea 4 = true → accepts s.map .store ea 4 = true →
    Commits s
      { next := s.pc + 4#32, x := some (rd, s.wordAt ea), store := some ⟨ea, 4, new.toNat⟩,
        reservation := reservationAfterStore ea 4 s.reservation,
        requests := [.load ea 4, .store ea 4 new.toNat] } r) ∧
  (accepts s.map .load ea 4 = false → r = Trapped s (.loadAccessFault ea) [.load ea 4]) ∧
  (accepts s.map .load ea 4 = true → accepts s.map .store ea 4 = false →
    r = Trapped s (.storeAccessFault ea) [.load ea 4, .store ea 4 new.toNat])

/-- A single-precision result, boxed, with the flags it raised (R371, R372, R373). -/
def singleEffect (s : State) (rd : FReg) (r : Word × FlagSet) : Effect s :=
  { next := s.pc + 4#32, f := some (rd, 0xffffffff#32 ++ r.1), fcsr := s.fcsr ||| r.2.setWidth 8 }

/-- A double-precision result with the flags it raised (R372, R410). -/
def doubleEffect (s : State) (rd : FReg) (r : DWord × FlagSet) : Effect s :=
  { next := s.pc + 4#32, f := some (rd, r.1), fcsr := s.fcsr ||| r.2.setWidth 8 }

/-- An integer result of a floating-point instruction with the flags it raised (R371, R372). -/
def intEffect (s : State) (rd : Reg) (r : Word × FlagSet) : Effect s :=
  { next := s.pc + 4#32, x := some (rd, r.1), fcsr := s.fcsr ||| r.2.setWidth 8 }

/-- What a CSR address reads as, none where the core has no such CSR (R34, R35, R37). -/
def csrValue (s : State) (csr : BitVec 12) : Option Word :=
  if csr = 0x001#12 ∧ s.cfg.rv32fd = true then some (0#27 ++ s.fcsr.extractLsb' 0 5)
  else if csr = 0x002#12 ∧ s.cfg.rv32fd = true then some (0#29 ++ s.fcsr.extractLsb' 5 3)
  else if csr = 0x003#12 ∧ s.cfg.rv32fd = true then some (0#24 ++ s.fcsr)
  else if csr ∈ [0xc00#12, 0xc01#12, 0xc02#12] ∧ s.cfg.hasCounterCsrs = true then some (s.clock.extractLsb' 0 32)
  else if csr ∈ [0xc80#12, 0xc81#12, 0xc82#12] ∧ s.cfg.hasCounterCsrs = true then some (s.clock.extractLsb' 32 32)
  else none

/-- `fcsr` after a value is written to a CSR address (R31, R34): the field takes the value's low bits. -/
def fcsrAfterWrite (s : State) (csr : BitVec 12) (v : Word) : BitVec 8 :=
  if csr = 0x001#12 then s.fcsr.extractLsb' 5 3 ++ v.extractLsb' 0 5
  else if csr = 0x002#12 then v.extractLsb' 0 3 ++ s.fcsr.extractLsb' 0 5
  else if csr = 0x003#12 then v.extractLsb' 0 8
  else s.fcsr

/-- A CSR instruction that may run (R270): `writes` says whether it writes `new`, from the old value. -/
def CsrRuns (s : State) (csr : BitVec 12) (rd : Reg) (writes : Prop) (new : Word → Word) (r : Result) : Prop :=
  ∀ old, csrValue s csr = some old →
    (writes → csr.extractLsb' 10 2 ≠ 0b11#2 →
      Commits s { next := s.pc + 4#32, x := some (rd, old), fcsr := fcsrAfterWrite s csr (new old) } r) ∧
    (¬writes → Commits s { next := s.pc + 4#32, x := some (rd, old) } r)

/-- A CSR instruction that may not run (R270): no such CSR, or a write of a read-only one. -/
def CsrTraps (s : State) (csr : BitVec 12) (writes : Prop) (i : Instr) : Prop :=
  (csrValue s csr = none → exec i s = Trapped s (.illegalInstruction (encode i).raw) []) ∧
  (writes → csr.extractLsb' 10 2 = 0b11#2 → exec i s = Trapped s (.illegalInstruction (encode i).raw) [])

/-! ### The step and the machine -/

/-- `fcsr` with more flags set and `frm` as it was (R15, R372). -/
def fcsrWithFlags (s : State) (fl : FlagSet) : BitVec 8 :=
  s.fcsr ||| fl.setWidth 8

/-- What every step keeps true. -/
structure Inv (s : State) : Prop where
  /-- Memory is in canonical form (log 4). -/
  memory : Memory.wf s.mem = true
  /-- `x[0] == 0` (R22). -/
  x0 : s.x.get 0 = 0#32
  /-- `pc` is a multiple of IALIGN (R24). -/
  pc : aligned s.pc s.cfg.ialign = true
  /-- A reserved address is a multiple of 4 (R241). -/
  reservation : ∀ a, s.reservation = some a → aligned a 4 = true
  /-- `mcause` holds one of the nine codes (R502); its reset value 0 is one of them. -/
  mcause : s.mcause.toNat ∈ [0, 1, 2, 3, 4, 5, 6, 7, 11]

/-- What a host action leaves: every field as the action names it, or as it was (R12, R22, R31, R36, R38, R60, R82, R550,
R551; Clock by D27; the answer and the log of requests are the model's own, log 7). -/
def HostWrites (a : HostAction) (s t : State) : Prop :=
  (∀ k, t.getX k = match a with
    | .setX r v => if k = 0 then 0#32 else if k = r then v else s.getX k
    | .reset => 0#32
    | _ => s.getX k) ∧
  (∀ k, t.getF k = match a with
    | .setF r v => if k = r then v else s.getF k
    | .reset => 0#64
    | _ => s.getF k) ∧
  (∀ k, t.byteAt k = match a with
    | .setByte ad b => if k = ad then b else s.byteAt k
    | _ => s.byteAt k) ∧
  (t.pc = match a with | .setPc v => v | .reset => s.cfg.resetPc | _ => s.pc) ∧
  (t.fcsr = match a with | .setFcsr v => v.extractLsb' 0 8 | .reset => 0#8 | _ => s.fcsr) ∧
  (t.mcause = match a with | .setMcause v => v | .reset => 0#32 | _ => s.mcause) ∧
  (t.mepc = match a with | .setMepc v => v | .reset => 0#32 | _ => s.mepc) ∧
  (t.mtval = match a with | .setMtval v => v | .reset => 0#32 | _ => s.mtval) ∧
  (t.reservation = match a with | .setReservation r => r | .reset => none | _ => s.reservation) ∧
  (t.clock = match a with
    | .setClock v => if s.cfg.clockHostWritable then v else s.clock
    | .reset => 0#64
    | _ => s.clock) ∧
  (t.map = match a with | .setMap m => m | _ => s.map) ∧
  (t.answer = match a with | .reset => .idle | _ => s.answer) ∧
  (t.bus = match a with | .reset => [] | _ => s.bus)

/-- The instruction may write memory: a store, or an atomic instruction other than `lr.w`. -/
def mayStore : Instr → Bool
  | .sb .. | .sh .. | .sw .. | .fsw .. | .fsd .. => true
  | .scW .. | .amoswapW .. | .amoaddW .. | .amoxorW .. | .amoandW .. | .amoorW .. => true
  | .amominW .. | .amomaxW .. | .amominuW .. | .amomaxuW .. => true
  | .cSw .. | .cFsw .. | .cFsd .. | .cSwsp .. | .cFswsp .. | .cFsdsp .. => true
  | _ => false

/-- The target of a jump or of a branch whose condition holds in `s`; none for every other instruction and for a branch
that is not taken (R203 to R210, R464, R475 to R477, R482, R485). -/
def takenTarget (s : State) : Instr → Option Word
  | .jal _ imm => some (s.pc + imm.signExtend 32)
  | .jalr _ rs1 imm => some ((s.getX rs1 + imm.signExtend 32) &&& 0xfffffffe#32)
  | .beq rs1 rs2 imm => if s.getX rs1 = s.getX rs2 then some (s.pc + imm.signExtend 32) else none
  | .bne rs1 rs2 imm => if s.getX rs1 = s.getX rs2 then none else some (s.pc + imm.signExtend 32)
  | .blt rs1 rs2 imm => if (s.getX rs1).slt (s.getX rs2) then some (s.pc + imm.signExtend 32) else none
  | .bge rs1 rs2 imm => if (s.getX rs1).slt (s.getX rs2) then none else some (s.pc + imm.signExtend 32)
  | .bltu rs1 rs2 imm => if (s.getX rs1).ult (s.getX rs2) then some (s.pc + imm.signExtend 32) else none
  | .bgeu rs1 rs2 imm => if (s.getX rs1).ult (s.getX rs2) then none else some (s.pc + imm.signExtend 32)
  | .cJal imm => some (s.pc + imm.signExtend 32)
  | .cJ imm => some (s.pc + imm.signExtend 32)
  | .cJr rs1 => some (s.getX rs1 &&& 0xfffffffe#32)
  | .cJalr rs1 => some (s.getX rs1 &&& 0xfffffffe#32)
  | .cBeqz rs1 imm => if s.getX (fromSmall rs1) = 0#32 then some (s.pc + imm.signExtend 32) else none
  | .cBnez rs1 imm => if s.getX (fromSmall rs1) = 0#32 then none else some (s.pc + imm.signExtend 32)
  | _ => none

/-- The instruction is a CSR instruction: the only ones that can clear a flag or change `frm` (R32). -/
def isCsr : Instr → Bool
  | .csrrw .. | .csrrs .. | .csrrc .. | .csrrwi .. | .csrrsi .. | .csrrci .. => true
  | _ => false

/-- The bytes of `c`, the one at the lowest address first (R62). -/
def codeBytes : Code → List Byte
  | .half h => [h.extractLsb' 0 8, h.extractLsb' 8 8]
  | .word w => wordBytes w

/-- The platform's memory holds the bits `c` at `pc` and lets them be fetched (R65). -/
structure Holds (s : State) (c : Code) : Prop where
  low : accepts s.map .fetch s.pc 2 = true
  high : ∀ w, c = .word w → accepts s.map .fetch (s.pc + 2#32) 2 = true
  bytes : ∀ k (hk : k < (codeBytes c).length), s.byteAt (s.pc + BitVec.ofNat 32 k) = (codeBytes c)[k]

/-- The fetch requests of an instruction with these bits (R65, R101). -/
def fetchRequests (s : State) : Code → List Request
  | .half _ => [.fetch s.pc]
  | .word _ => [.fetch s.pc, .fetch (s.pc + 2#32)]

/-- The 32-bit instruction a 16-bit instruction stands for (R116, R450, R455 to R489). -/
def expansion : Instr → Option Instr
  | .cAddi4spn rd nzuimm => some (.addi (fromSmall rd) 2 (nzuimm.setWidth 12))
  | .cFld rd rs1 uimm => some (.fld (fromSmall rd) (fromSmall rs1) (uimm.setWidth 12))
  | .cLw rd rs1 uimm => some (.lw (fromSmall rd) (fromSmall rs1) (uimm.setWidth 12))
  | .cFlw rd rs1 uimm => some (.flw (fromSmall rd) (fromSmall rs1) (uimm.setWidth 12))
  | .cFsd rs1 rs2 uimm => some (.fsd (fromSmall rs1) (fromSmall rs2) (uimm.setWidth 12))
  | .cSw rs1 rs2 uimm => some (.sw (fromSmall rs1) (fromSmall rs2) (uimm.setWidth 12))
  | .cFsw rs1 rs2 uimm => some (.fsw (fromSmall rs1) (fromSmall rs2) (uimm.setWidth 12))
  | .cNop imm => some (.addi 0 0 (imm.signExtend 12))
  | .cAddi rd imm => some (.addi rd rd (imm.signExtend 12))
  | .cJal imm => some (.jal 1 (imm.signExtend 21))
  | .cLi rd imm => some (.addi rd 0 (imm.signExtend 12))
  | .cAddi16sp nzimm => some (.addi 2 2 (nzimm.signExtend 12))
  | .cLui rd nzimm => some (.lui rd ((nzimm.signExtend 32).extractLsb' 12 20))
  | .cSrli rd shamt => some (.srli (fromSmall rd) (fromSmall rd) shamt)
  | .cSrai rd shamt => some (.srai (fromSmall rd) (fromSmall rd) shamt)
  | .cAndi rd imm => some (.andi (fromSmall rd) (fromSmall rd) (imm.signExtend 12))
  | .cSub rd rs2 => some (.sub (fromSmall rd) (fromSmall rd) (fromSmall rs2))
  | .cXor rd rs2 => some (.xor (fromSmall rd) (fromSmall rd) (fromSmall rs2))
  | .cOr rd rs2 => some (.or (fromSmall rd) (fromSmall rd) (fromSmall rs2))
  | .cAnd rd rs2 => some (.and (fromSmall rd) (fromSmall rd) (fromSmall rs2))
  | .cJ imm => some (.jal 0 (imm.signExtend 21))
  | .cBeqz rs1 imm => some (.beq (fromSmall rs1) 0 (imm.signExtend 13))
  | .cBnez rs1 imm => some (.bne (fromSmall rs1) 0 (imm.signExtend 13))
  | .cSlli rd shamt => some (.slli rd rd shamt)
  | .cFldsp rd uimm => some (.fld rd 2 (uimm.setWidth 12))
  | .cLwsp rd uimm => some (.lw rd 2 (uimm.setWidth 12))
  | .cFlwsp rd uimm => some (.flw rd 2 (uimm.setWidth 12))
  | .cJr rs1 => some (.jalr 0 rs1 0#12)
  | .cMv rd rs2 => some (.add rd 0 rs2)
  | .cEbreak => some .ebreak
  | .cJalr rs1 => some (.jalr 1 rs1 0#12)
  | .cAdd rd rs2 => some (.add rd rd rs2)
  | .cFsdsp rs2 uimm => some (.fsd 2 rs2 (uimm.setWidth 12))
  | .cSwsp rs2 uimm => some (.sw 2 rs2 (uimm.setWidth 12))
  | .cFswsp rs2 uimm => some (.fsw 2 rs2 (uimm.setWidth 12))
  | _ => none

/-- The value a finite pattern stands for (R302), as a rational number. -/
def Kernel.value {fmt : Fmt} (x : BitVec fmt.width) : ℚ :=
  (if Kernel.sign x then -1 else 1) * (Kernel.mant x : ℚ) * (2 : ℚ) ^ Kernel.exponent x

/-- Neither an infinity nor a NaN. -/
def Kernel.isFinite {fmt : Fmt} (x : BitVec fmt.width) : Bool := Kernel.expField x != fmt.expMax

/-- The value of a pattern that is no NaN, with `-∞` below and `+∞` above every finite value (R318). -/
def Kernel.extendedValue {fmt : Fmt} (x : BitVec fmt.width) : WithBot (WithTop ℚ) :=
  if isInf x then (if sign x then ⊥ else ((⊤ : WithTop ℚ) : WithBot (WithTop ℚ)))
  else ((value x : WithTop ℚ) : WithBot (WithTop ℚ))

/-! ### The rounding rules over an ordered field (R307, R308)

The kernel computes with integers; these definitions are the rules' own words, over the rationals or the reals. -/

/-- Does `RInt` of R307 go up from `n`, with `d` the part beyond it? -/
def Kernel.goesUp {K : Type} [Field K] [LinearOrder K] (m : RoundingMode) (s : Bool) (n : Int) (d : K) : Bool :=
  match m with
  | .rne => decide (1 / 2 < d) || (decide (d = 1 / 2) && n % 2 == 1)
  | .rtz => false
  | .rdn => s
  | .rup => !s
  | .rmm => decide (1 / 2 ≤ d)

/-- `RInt(rm, sign, q)` (R307). -/
def Kernel.RInt {K : Type} [Field K] [LinearOrder K] [IsStrictOrderedRing K] [FloorRing K] (m : RoundingMode)
    (s : Bool) (q : K) : Int :=
  if q - ⌊q⌋ = 0 then ⌊q⌋ else if goesUp m s ⌊q⌋ (q - ⌊q⌋) then ⌊q⌋ + 1 else ⌊q⌋

/-- `RoundPack(fmt, rm, r)` (R308). -/
def Kernel.RoundPack {K : Type} [Field K] [LinearOrder K] [IsStrictOrderedRing K] [FloorRing K] (fmt : Fmt)
    (m : RoundingMode) (r : K) : BitVec fmt.width × FlagSet :=
  let s := decide (r < 0)
  let a := |r|
  let e := Int.log 2 a
  let p : Int := fmt.prec
  let nu := RInt m s (a / 2 ^ (e - p + 1))
  let ru : K := nu * 2 ^ (e - p + 1)
  if (2 : K) ^ (fmt.emax + 1) ≤ ru then
    (if m = .rne ∨ m = .rmm ∨ (m = .rdn ∧ s = true) ∨ (m = .rup ∧ s = false) then infinity fmt s
     else maxFinite fmt s, flagOF ||| flagNX)
  else if a < (2 : K) ^ fmt.emin then
    let nd := RInt m s (a / 2 ^ (fmt.emin - p + 1))
    let inexact := decide ((nd : K) * 2 ^ (fmt.emin - p + 1) ≠ a)
    let tiny := decide (ru < (2 : K) ^ fmt.emin)
    (pack fmt s nd.toNat, raiseIf inexact flagNX ||| raiseIf (inexact && tiny) flagUF)
  else
    let carry := decide (nu = 2 ^ fmt.prec)
    let e' := if carry then e + 1 else e
    let n' := if carry then 2 ^ (fmt.prec - 1) else nu
    (pack fmt s (((e' + fmt.bias) * 2 ^ fmt.fracBits + (n' - 2 ^ (fmt.prec - 1))).toNat), raiseIf (decide (ru ≠ a)) flagNX)

end Sys2Proof.Machine
end

