-- ==== Sys2Proof/Certificates/Slice0/Obligations.lean ====
section
/-!
DEFINITION. The statements about the model that are to be proved. OBLIGATIONS.json lists them with their tier, their
basis in spec/ and the rules they cite.
-/

open Sys2Proof Sys2Proof.Machine

/-- Decode and encode agree on every instruction and every operand (30_encoding.md). -/
def Obligations.DecodeEncode : Prop :=
  ∀ (cfg : Config) (i : Instr), i.wellFormed = true → i.enabled cfg = true → decode cfg (encode i) = .ok i

/-- The decoder is injective on legal encodings and drops no bit (30_encoding.md, decoding). -/
def Obligations.EncodeDecode : Prop :=
  ∀ (cfg : Config) (c : Code) (i : Instr), decode cfg c = .ok i →
    i.wellFormed = true ∧ i.enabled cfg = true ∧ encode i = c

/-- Rows of switched-off extensions are illegal (00_scope.md section 3). -/
def Obligations.DisabledExtensionIsIllegal : Prop :=
  ∀ cfg : Config,
    (∀ i : Instr, i.wellFormed = true → i.enabled cfg = false →
      decode cfg (encode i) = .error (.extensionOff (encode i).raw)) ∧
    (∀ (c : Code) (i : Instr), decode cfg c = .ok i →
      (i.cond = .rv32fd ∨ i.cond = .rv32cAndFd → cfg.rv32fd = true) ∧
      (i.cond = .rv32c ∨ i.cond = .rv32cAndFd → cfg.rv32c = true))

/-- A sanity check on example words of the section files, one or more of each family; that `Config.standard` switches
every extension on is the model's choice (log 2). -/
def Obligations.SampleWordsDecode : Prop :=
  decode Config.standard (.word 0x00700093#32) = .ok (.addi 1 0 7#12) ∧
  decode Config.standard (.word 0x0220c1b3#32) = .ok (.div 3 1 2) ∧
  decode Config.standard (.word 0x008000ef#32) = .ok (.jal 1 8#21) ∧
  decode Config.standard (.word 0xffdff06f#32) = .ok (.jal 0 (-4#21)) ∧
  decode Config.standard (.word 0x00730863#32) = .ok (.beq 6 7 16#13) ∧
  decode Config.standard (.word 0xffc32283#32) = .ok (.lw 5 6 (-4#12)) ∧
  decode Config.standard (.word 0xfe732e23#32) = .ok (.sw 6 7 (-4#12)) ∧
  decode Config.standard (.word 0x160322af#32) = .ok (.lrW 5 6 true true) ∧
  decode Config.standard (.word 0x087322af#32) = .ok (.amoswapW 5 6 7 false false) ∧
  decode Config.standard (.word 0x003312f3#32) = .ok (.csrrw 5 0x003#12 6) ∧
  decode Config.standard (.word 0x003170d3#32) = .ok (.faddS 1 2 3 7#3) ∧
  decode Config.standard (.word 0x00833087#32) = .ok (.fld 1 6 8#12) ∧
  decode Config.standard (.half 0x0085#16) = .ok (.cAddi 1 1#6) ∧
  decode Config.standard (.half 0x1ffc#16) = .ok (.cAddi4spn 7 1020#10)

/-- Named reserved encodings (30_encoding.md section 4, 45_system_csr.md, 49_c_compressed.md). -/
def Obligations.ReservedWordsAreIllegal : Prop :=
  ∀ cfg : Config,
    (∀ w ∈ [0x00000000#32, 0xffffffff#32, 0x30200073#32, 0x10200073#32, 0x00200073#32, 0x12000073#32, 0x000000f3#32,
        0x00008073#32, 0x02001013#32, 0xe20102d3#32, 0xf20300d3#32],
      decode cfg (.word w) = .error (.reserved w)) ∧
    (∀ h ∈ [0x0000#16, 0x0004#16, 0x8000#16, 0x6101#16, 0x6401#16, 0x9001#16, 0x9401#16, 0x1282#16, 0x9c01#16,
        0x9c61#16, 0x4012#16, 0x8002#16],
      decode cfg (.half h) = .error (.reserved (h.setWidth 32)))

/-- Items 1 to 5 of the step sequence of 60_exceptions.md. The bus log is the model's own field (log 7). -/
def Obligations.StepRunsDecoded : Prop :=
  ∀ (s : State) (c : Code) (i : Instr), aligned s.pc s.cfg.ialign = true → Holds s c → decode s.cfg c = .ok i →
    step s = exec i { s with bus := fetchRequests s c }

/-- R114 for every rejected code, reserved or of a switched-off extension, and its named cases by opcode and funct3.
-/
def Obligations.IllegalBitsTrap : Prop :=
  (∀ (s : State) (c : Code) (e : DecodeError), aligned s.pc s.cfg.ialign = true → Holds s c →
    (∀ h, c = .half h → isCompressed s.cfg h = true) →
    (∀ w, c = .word w → isCompressed s.cfg (w.extractLsb' 0 16) = false) →
    decode s.cfg c = .error e →
    step s = Trapped { s with bus := [] } (.illegalInstruction c.raw) (fetchRequests s c)) ∧
  ∀ (cfg : Config) (w : Word),
    let opcode := w.extractLsb' 0 7
    let funct3 := w.extractLsb' 12 3
    (w = 0x00000000#32 ∨ w = 0xffffffff#32 ∨
      (opcode = 0x13#7 ∧ (funct3 = 1#3 ∨ funct3 = 5#3) ∧ w.getLsbD 25 = true) ∨
      (opcode = 0x2f#7 ∧ funct3 = 3#3) ∨ opcode = 0x1b#7 ∨ opcode = 0x3b#7 ∨
      (opcode = 0x03#7 ∧ (funct3 = 3#3 ∨ funct3 = 6#3)) ∨ (opcode = 0x23#7 ∧ funct3 = 3#3) →
      decode cfg (.word w) = .error (.reserved w)) ∧
    decode cfg (.half 0x0000#16) = .error (.reserved 0#32)

/-- Items 1 to 3 of the step sequence (60_exceptions.md; the spec's own decisions D8 and D9). -/
def Obligations.FetchTraps : Prop :=
  ∀ s : State,
    (aligned s.pc s.cfg.ialign = false →
      step s = Trapped { s with bus := [] } (.instructionAddressMisaligned s.pc) []) ∧
    (aligned s.pc s.cfg.ialign = true → accepts s.map .fetch s.pc 2 = false →
      step s = Trapped { s with bus := [] } (.instructionAccessFault s.pc) [.fetch s.pc]) ∧
    (aligned s.pc s.cfg.ialign = true → accepts s.map .fetch s.pc 2 = true →
      (s.cfg.rv32c = true → (s.byteAt s.pc).extractLsb' 0 2 = 0b11#2) →
      accepts s.map .fetch (s.pc + 2#32) 2 = false →
      step s = Trapped { s with bus := [] } (.instructionAccessFault (s.pc + 2#32))
        [.fetch s.pc, .fetch (s.pc + 2#32)])

/-- "There is no other way for a step to fail" (60_exceptions.md). The answer is kept in a field of the model (log 7).
-/
def Obligations.StepAlwaysAnswers : Prop :=
  ∀ s : State, ∃ t, step s = .next t ∧ (t.answer = .ok ∨ ∃ tr, t.answer = .err tr)

/-- The table of 70_reset_and_hazards.md (the spec's own decision D2); the parameter values are the model's choice
(log 2, log 3). -/
def Obligations.ResetState : Prop :=
  State.reset = State.resetWith Config.standard ∧
  ∀ cfg : Config, ∀ r : Fin 32,
    (State.resetWith cfg).getX r = 0#32 ∧ (State.resetWith cfg).getF r = 0#64 ∧
    (State.resetWith cfg).readS r = 0x7fc00000#32 ∧
    (State.resetWith cfg).pc = cfg.resetPc ∧ (State.resetWith cfg).fcsr = 0#8 ∧
    (State.resetWith cfg).mcause = 0#32 ∧ (State.resetWith cfg).mepc = 0#32 ∧ (State.resetWith cfg).mtval = 0#32 ∧
    (State.resetWith cfg).reservation = none ∧ (State.resetWith cfg).clock = 0#64

/-- The invariant of Safety.lean holds at reset (the canonical form of memory is the model's own, log 4). -/
def Obligations.ResetMeetsInvariant : Prop :=
  (∀ cfg : Config, aligned cfg.resetPc cfg.ialign = true → Inv (State.resetWith cfg)) ∧ Inv State.reset

/-- x[0] stays 0, no instruction produces a misaligned pc, the reservation is a multiple of 4, memory keeps its form.
-/
def Obligations.StepKeepsInvariant : Prop :=
  ∀ s t : State, Inv s → step s = .next t → Inv t

/-- What the host and the platform may do between steps (00_scope.md section 4, 20_memory.md section 6; log 7, log 13,
log 24). -/
def Obligations.HostKeepsMemoryAndX0 : Prop :=
  ∀ (s : State) (a : HostAction), Memory.wf s.mem = true → s.x.get 0 = 0#32 →
    Memory.wf (hostApply a s).mem = true ∧ (hostApply a s).x.get 0 = 0#32 ∧ (hostApply a s).cfg = s.cfg ∧
    HostWrites a s (hostApply a s)

/-- No partial commit, and what trap entry writes. -/
def Obligations.TrapsChangeOnlyTrapRegisters : Prop :=
  ∀ (s t : State) (tr : Trap), step s = .next t → t.answer = .err tr →
    t.mcause = tr.code ∧ t.mepc = s.pc ∧ t.mtval = tr.value ∧
    t.x = s.x ∧ t.f = s.f ∧ t.pc = s.pc ∧ t.fcsr = s.fcsr ∧ t.reservation = s.reservation ∧ t.clock = s.clock ∧
    t.mem = s.mem ∧ t.cfg = s.cfg ∧ t.map = s.map

/-- The tables of 60_exceptions.md section 2 (the spec's own decisions D6 and D7). -/
def Obligations.TrapCodesAndValues : Prop :=
  ∀ a : Word,
    (Trap.instructionAddressMisaligned a).code = 0#32 ∧ (Trap.instructionAccessFault a).code = 1#32 ∧
    (Trap.illegalInstruction a).code = 2#32 ∧ Trap.breakpoint.code = 3#32 ∧
    (Trap.loadAddressMisaligned a).code = 4#32 ∧ (Trap.loadAccessFault a).code = 5#32 ∧
    (Trap.storeAddressMisaligned a).code = 6#32 ∧ (Trap.storeAccessFault a).code = 7#32 ∧
    Trap.environmentCall.code = 11#32 ∧
    (Trap.instructionAddressMisaligned a).value = a ∧ (Trap.instructionAccessFault a).value = a ∧
    (Trap.illegalInstruction a).value = a ∧ Trap.breakpoint.value = 0#32 ∧
    (Trap.loadAddressMisaligned a).value = a ∧ (Trap.loadAccessFault a).value = a ∧
    (Trap.storeAddressMisaligned a).value = a ∧ (Trap.storeAccessFault a).value = a ∧
    Trap.environmentCall.value = 0#32

/-- Clock is incremented by 1 per committed step, and a step that returns Ok does not clear the trap registers. -/
def Obligations.ClockCountsCommittedSteps : Prop :=
  ∀ s t : State, step s = .next t →
    (t.answer = .ok →
      t.clock = s.clock + 1#64 ∧ t.mcause = s.mcause ∧ t.mepc = s.mepc ∧ t.mtval = s.mtval) ∧
    (t.answer ≠ .ok → t.clock = s.clock)

/-- How pc advances. `takenTarget` gives the target of a jump or taken branch. -/
def Obligations.PcAdvances : Prop :=
  ∀ (s t : State) (i : Instr), exec i s = .next t →
    (t.answer = .ok → t.pc = (takenTarget s i).getD (s.pc + (encode i).ilen)) ∧
    (t.answer ≠ .ok → t.pc = s.pc)

/-- fflags are monotonic: the interpreter never clears bits; only csr writes can. -/
def Obligations.FlagsAreSticky : Prop :=
  ∀ (s t : State) (i : Instr), isCsr i = false → exec i s = .next t →
    s.fflags &&& ~~~t.fflags = 0#5 ∧ t.frm = s.frm

/-- Which instructions write memory; the platform and the parameters are never written by the core. -/
def Obligations.OnlyStoresChangeMemory : Prop :=
  ∀ (s t : State) (i : Instr), exec i s = .next t →
    t.cfg = s.cfg ∧ t.map = s.map ∧ (mayStore i = false → ∀ a, t.byteAt a = s.byteAt a)

/-- What sets and what clears the reservation (44_a_extension.md; overlap modulo 2^32: log 14). -/
def Obligations.ReservationRule : Prop :=
  (∀ (s t : State) (i : Instr), exec i s = .next t →
    (∀ a, t.reservation = some a → s.reservation = some a ∨
      ∃ rd rs1 aq rl, i = .lrW rd rs1 aq rl ∧ a = s.getX rs1 ∧ t.answer = .ok) ∧
    ((mayStore i = false ∧ (∀ rd rs1 aq rl, i ≠ .lrW rd rs1 aq rl)) ∨ t.answer ≠ .ok →
      t.reservation = s.reservation)) ∧
  (∀ (ea r : Word) (n : Nat), 0 < n → n ≤ 8 →
    ((∃ i j : Nat, i < n ∧ j < 4 ∧ ea + BitVec.ofNat 32 i = r + BitVec.ofNat 32 j) →
      reservationAfterStore ea n (some r) = none) ∧
    ((∀ i j : Nat, i < n → j < 4 → ea + BitVec.ofNat 32 i ≠ r + BitVec.ofNat 32 j) →
      reservationAfterStore ea n (some r) = some r) ∧
    reservationAfterStore ea n none = none)

/-- Without RV32FD the f registers and fcsr cannot be observed by any instruction. -/
def Obligations.WithoutFpNothingTouchesFp : Prop :=
  ∀ (s t : State) (f' : Vector DWord 32) (fcsr' : BitVec 8), s.cfg.rv32fd = false → step s = .next t →
    t.f = s.f ∧ t.fcsr = s.fcsr ∧
    step { s with f := f', fcsr := fcsr' } = .next { t with f := f', fcsr := fcsr' }

/-- Traps are precise: the host can retry or skip (60_exceptions.md); there is no instruction that returns from a
trap. -/
def Obligations.ResumePastSkipsTheInstruction : Prop :=
  ∀ (s t : State) (c : Code) (tr : Trap), aligned s.pc s.cfg.ialign = true → Holds s c →
    (∀ h, c = .half h → isCompressed s.cfg h = true) →
    (∀ w, c = .word w → isCompressed s.cfg (w.extractLsb' 0 16) = false) →
    step s = .next t → t.answer = .err tr →
    resumePast t = { t with pc := s.pc + c.ilen } ∧ t.pc = s.pc

/-- Little-endian placement and the load of the latest store (20_memory.md). -/
def Obligations.MemoryIsLittleEndian : Prop :=
  ∀ (m : Memory) (a : Word) (n : Nat) (v : BitVec (8 * n)), Memory.wf m = true → n ≤ 8 →
    (∀ i, i < n → (readBytes n m a).extractLsb' (8 * i) 8 = Memory.read m (a + BitVec.ofNat 32 i).toNat) ∧
    (∀ i, i < n → Memory.read (writeBytes n m a v) (a + BitVec.ofNat 32 i).toNat = v.extractLsb' (8 * i) 8) ∧
    (∀ b : Word, (∀ i, i < n → b ≠ a + BitVec.ofNat 32 i) →
      Memory.read (writeBytes n m a v) b.toNat = Memory.read m b.toNat) ∧
    readBytes n (writeBytes n m a v) a = v

/-- ReadS and WriteS. -/
def Obligations.NaNBoxing : Prop :=
  ∀ (s : State) (i k : FReg) (b : Word) (w : DWord),
    (s.writeS i b).getF i = 0xffffffff#32 ++ b ∧ (s.writeS i b).readS i = b ∧
    (k ≠ i → (s.writeS i b).getF k = s.getF k) ∧
    (w >>> 32 = 0xffffffff#64 → (s.setF i w).readS i = w.setWidth 32) ∧
    (w >>> 32 ≠ 0xffffffff#64 → (s.setF i w).readS i = 0x7fc00000#32)

/-- The 11 immediate and upper-immediate instructions; their whole effect. -/
def Obligations.IntegerImmediate : Prop :=
  ∀ (s : State) (rd rs1 : Reg) (imm : BitVec 12) (imm20 : BitVec 20) (shamt : BitVec 5),
    let a := s.getX rs1
    let b : Word := imm.signExtend 32
    let writes (v : Word) (r : Result) := Commits s { next := s.pc + 4#32, x := some (rd, v) } r
    writes (imm20 ++ 0#12) (exec (.lui rd imm20) s) ∧
    writes (s.pc + (imm20 ++ 0#12)) (exec (.auipc rd imm20) s) ∧
    writes (a + b) (exec (.addi rd rs1 imm) s) ∧
    writes (if a.slt b then 1#32 else 0#32) (exec (.slti rd rs1 imm) s) ∧
    writes (if a.ult b then 1#32 else 0#32) (exec (.sltiu rd rs1 imm) s) ∧
    writes (a ^^^ b) (exec (.xori rd rs1 imm) s) ∧
    writes (a ||| b) (exec (.ori rd rs1 imm) s) ∧
    writes (a &&& b) (exec (.andi rd rs1 imm) s) ∧
    writes (BitVec.ofNat 32 (a.toNat * 2 ^ shamt.toNat)) (exec (.slli rd rs1 shamt) s) ∧
    writes (BitVec.ofNat 32 (a.toNat / 2 ^ shamt.toNat)) (exec (.srli rd rs1 shamt) s) ∧
    writes (BitVec.ofInt 32 (a.toInt / 2 ^ shamt.toNat)) (exec (.srai rd rs1 shamt) s)

/-- The 10 register-register instructions; their whole effect. -/
def Obligations.IntegerRegister : Prop :=
  ∀ (s : State) (rd rs1 rs2 : Reg),
    let a := s.getX rs1
    let b := s.getX rs2
    let n := b.toNat % 32
    let writes (v : Word) (r : Result) := Commits s { next := s.pc + 4#32, x := some (rd, v) } r
    writes (a + b) (exec (.add rd rs1 rs2) s) ∧
    writes (BitVec.ofInt 32 (a.toInt - b.toInt)) (exec (.sub rd rs1 rs2) s) ∧
    writes (BitVec.ofNat 32 (a.toNat * 2 ^ n)) (exec (.sll rd rs1 rs2) s) ∧
    writes (if a.slt b then 1#32 else 0#32) (exec (.slt rd rs1 rs2) s) ∧
    writes (if a.ult b then 1#32 else 0#32) (exec (.sltu rd rs1 rs2) s) ∧
    writes (a ^^^ b) (exec (.xor rd rs1 rs2) s) ∧
    writes (BitVec.ofNat 32 (a.toNat / 2 ^ n)) (exec (.srl rd rs1 rs2) s) ∧
    writes (BitVec.ofInt 32 (a.toInt / 2 ^ n)) (exec (.sra rd rs1 rs2) s) ∧
    writes (a ||| b) (exec (.or rd rs1 rs2) s) ∧
    writes (a &&& b) (exec (.and rd rs1 rs2) s)

/-- The four multiplications; their whole effect. -/
def Obligations.Multiply : Prop :=
  ∀ (s : State) (rd rs1 rs2 : Reg),
    let a := s.getX rs1
    let b := s.getX rs2
    let writes (v : Word) (r : Result) := Commits s { next := s.pc + 4#32, x := some (rd, v) } r
    writes (BitVec.ofInt 32 (a.toInt * b.toInt)) (exec (.mul rd rs1 rs2) s) ∧
    writes ((a.signExtend 64 * b.signExtend 64).extractLsb' 32 32) (exec (.mulh rd rs1 rs2) s) ∧
    writes ((a.signExtend 64 * b.setWidth 64).extractLsb' 32 32) (exec (.mulhsu rd rs1 rs2) s) ∧
    writes ((a.setWidth 64 * b.setWidth 64).extractLsb' 32 32) (exec (.mulhu rd rs1 rs2) s)

/-- The division law and the two corners, no trap in any of them. -/
def Obligations.Divide : Prop :=
  ∀ (s : State) (rd rs1 rs2 : Reg),
    let a := s.getX rs1
    let b := s.getX rs2
    let writes (v : Word) (r : Result) := Commits s { next := s.pc + 4#32, x := some (rd, v) } r
    (b = 0#32 →
      writes 0xffffffff#32 (exec (.div rd rs1 rs2) s) ∧ writes 0xffffffff#32 (exec (.divu rd rs1 rs2) s) ∧
      writes a (exec (.rem rd rs1 rs2) s) ∧ writes a (exec (.remu rd rs1 rs2) s)) ∧
    (a = 0x80000000#32 → b = 0xffffffff#32 →
      writes 0x80000000#32 (exec (.div rd rs1 rs2) s) ∧ writes 0#32 (exec (.rem rd rs1 rs2) s)) ∧
    (b ≠ 0#32 → ¬(a = 0x80000000#32 ∧ b = 0xffffffff#32) →
      ∃ q r : Word, writes q (exec (.div rd rs1 rs2) s) ∧ writes r (exec (.rem rd rs1 rs2) s) ∧
        a.toInt = b.toInt * q.toInt + r.toInt ∧ r.toInt.natAbs < b.toInt.natAbs ∧
        (r = 0#32 ∨ r.toInt.sign = a.toInt.sign)) ∧
    (b ≠ 0#32 →
      ∃ q r : Word, writes q (exec (.divu rd rs1 rs2) s) ∧ writes r (exec (.remu rd rs1 rs2) s) ∧
        a.toNat = b.toNat * q.toNat + r.toNat ∧ r.toNat < b.toNat)

/-- Jumps; the target check comes before any write. -/
def Obligations.JumpResults : Prop :=
  ∀ (s : State) (rd rs1 : Reg) (imm : BitVec 12) (offset : BitVec 21),
    Jumps s 4#32 rd (s.pc + offset.signExtend 32) (exec (.jal rd offset) s) ∧
    Jumps s 4#32 rd ((s.getX rs1 + imm.signExtend 32) &&& 0xfffffffe#32) (exec (.jalr rd rs1 imm) s)

/-- Conditional branches; one that is not taken never traps. -/
def Obligations.BranchResults : Prop :=
  ∀ (s : State) (rs1 rs2 : Reg) (offset : BitVec 13),
    let a := s.getX rs1
    let b := s.getX rs2
    let t := s.pc + offset.signExtend 32
    Branches s 4#32 (a = b) t (exec (.beq rs1 rs2 offset) s) ∧
    Branches s 4#32 (a ≠ b) t (exec (.bne rs1 rs2 offset) s) ∧
    Branches s 4#32 (a.slt b = true) t (exec (.blt rs1 rs2 offset) s) ∧
    Branches s 4#32 (a.slt b = false) t (exec (.bge rs1 rs2 offset) s) ∧
    Branches s 4#32 (a.ult b = true) t (exec (.bltu rs1 rs2 offset) s) ∧
    Branches s 4#32 (a.ult b = false) t (exec (.bgeu rs1 rs2 offset) s)

/-- With RV32C true every target is even, so no instruction of the family can trap. -/
def Obligations.NoTargetTrapsWithC : Prop :=
  ∀ (s : State) (i : Instr) (target : Word), s.cfg.rv32c = true → aligned s.pc 2 = true → i.wellFormed = true →
    takenTarget s i = some target →
    aligned target 2 = true ∧ ∃ t, exec i s = .next t ∧ t.answer = .ok ∧ t.pc = target

/-- Integer loads with their traps. -/
def Obligations.LoadResults : Prop :=
  ∀ (s : State) (rd rs1 : Reg) (imm : BitVec 12),
    let ea := s.getX rs1 + imm.signExtend 32
    let writes (v : Word) : Effect s := { next := s.pc + 4#32, x := some (rd, v) }
    Loads s 1 ea (writes ((s.byteAt ea).signExtend 32)) (exec (.lb rd rs1 imm) s) ∧
    Loads s 2 ea (writes ((s.halfAt ea).signExtend 32)) (exec (.lh rd rs1 imm) s) ∧
    Loads s 4 ea (writes (s.wordAt ea)) (exec (.lw rd rs1 imm) s) ∧
    Loads s 1 ea (writes ((s.byteAt ea).setWidth 32)) (exec (.lbu rd rs1 imm) s) ∧
    Loads s 2 ea (writes ((s.halfAt ea).setWidth 32)) (exec (.lhu rd rs1 imm) s) ∧
    aligned ea 1 = true

/-- Integer stores with their traps. Canonical memory is the invariant of StepKeepsInvariant. -/
def Obligations.StoreResults : Prop :=
  ∀ (s : State) (rs1 rs2 : Reg) (imm : BitVec 12), Memory.wf s.mem = true →
    let ea := s.getX rs1 + imm.signExtend 32
    let v := (s.getX rs2).toNat
    Stores s 4#32 1 ea v (exec (.sb rs1 rs2 imm) s) ∧
    Stores s 4#32 2 ea v (exec (.sh rs1 rs2 imm) s) ∧
    Stores s 4#32 4 ea v (exec (.sw rs1 rs2 imm) s)

/-- The reservation pair; aq and rl have no effect. -/
def Obligations.LoadReservedStoreConditional : Prop :=
  ∀ (s : State) (rd rs1 rs2 : Reg) (aq rl : Bool), Memory.wf s.mem = true → aligned (s.getX rs1) 4 = true →
    let ea := s.getX rs1
    let v := s.getX rs2
    (accepts s.map .load ea 4 = true →
      Commits s
        { next := s.pc + 4#32, x := some (rd, s.wordAt ea), reservation := some ea, requests := [.load ea 4] }
        (exec (.lrW rd rs1 aq rl) s)) ∧
    (accepts s.map .load ea 4 = false →
      exec (.lrW rd rs1 aq rl) s = Trapped s (.loadAccessFault ea) [.load ea 4]) ∧
    (s.reservation = some ea → accepts s.map .store ea 4 = true →
      Commits s
        { next := s.pc + 4#32, x := some (rd, 0#32), reservation := none, store := some ⟨ea, 4, v.toNat⟩,
          requests := [.store ea 4 v.toNat] }
        (exec (.scW rd rs1 rs2 aq rl) s)) ∧
    (s.reservation = some ea → accepts s.map .store ea 4 = false →
      exec (.scW rd rs1 rs2 aq rl) s = Trapped s (.storeAccessFault ea) [.store ea 4 v.toNat]) ∧
    (s.reservation ≠ some ea →
      Commits s { next := s.pc + 4#32, x := some (rd, 1#32), reservation := none }
        (exec (.scW rd rs1 rs2 aq rl) s))

/-- The nine read-modify-write instructions. -/
def Obligations.AmoResults : Prop :=
  ∀ (s : State) (rd rs1 rs2 : Reg) (aq rl : Bool), Memory.wf s.mem = true → aligned (s.getX rs1) 4 = true →
    let old := s.wordAt (s.getX rs1)
    let v := s.getX rs2
    Amo s rd rs1 v (exec (.amoswapW rd rs1 rs2 aq rl) s) ∧
    Amo s rd rs1 (old + v) (exec (.amoaddW rd rs1 rs2 aq rl) s) ∧
    Amo s rd rs1 (old ^^^ v) (exec (.amoxorW rd rs1 rs2 aq rl) s) ∧
    Amo s rd rs1 (old &&& v) (exec (.amoandW rd rs1 rs2 aq rl) s) ∧
    Amo s rd rs1 (old ||| v) (exec (.amoorW rd rs1 rs2 aq rl) s) ∧
    Amo s rd rs1 (if v.slt old then v else old) (exec (.amominW rd rs1 rs2 aq rl) s) ∧
    Amo s rd rs1 (if old.slt v then v else old) (exec (.amomaxW rd rs1 rs2 aq rl) s) ∧
    Amo s rd rs1 (if v.ult old then v else old) (exec (.amominuW rd rs1 rs2 aq rl) s) ∧
    Amo s rd rs1 (if old.ult v then v else old) (exec (.amomaxuW rd rs1 rs2 aq rl) s)

/-- The misalignment oddity that the spec preserves. -/
def Obligations.MisalignedAtomicsAreIllegal : Prop :=
  ∀ (s : State) (rd rs1 rs2 : Reg) (aq rl : Bool), aligned (s.getX rs1) 4 = false →
    ∀ i ∈ [Instr.lrW rd rs1 aq rl, .scW rd rs1 rs2 aq rl, .amoswapW rd rs1 rs2 aq rl, .amoaddW rd rs1 rs2 aq rl,
        .amoxorW rd rs1 rs2 aq rl, .amoandW rd rs1 rs2 aq rl, .amoorW rd rs1 rs2 aq rl, .amominW rd rs1 rs2 aq rl,
        .amomaxW rd rs1 rs2 aq rl, .amominuW rd rs1 rs2 aq rl, .amomaxuW rd rs1 rs2 aq rl],
      ∃ w, encode i = .word w ∧ exec i s = Trapped s (.illegalInstruction w) []

/-- Fences, wait, environment call and breakpoints. -/
def Obligations.SystemInstructions : Prop :=
  ∀ (s : State) (fm pred succ : BitVec 4) (imm : BitVec 12) (rs1 rd : Reg),
    Commits s { next := s.pc + 4#32 } (exec (.fence fm pred succ rs1 rd) s) ∧
    Commits s { next := s.pc + 4#32 } (exec (.fenceI imm rs1 rd) s) ∧
    Commits s { next := s.pc + 4#32 } (exec .wfi s) ∧
    exec .ecall s = .next { s with mcause := 11#32, mepc := s.pc, mtval := 0#32, answer := .err .environmentCall } ∧
    exec .ebreak s = .next { s with mcause := 3#32, mepc := s.pc, mtval := 0#32, answer := .err .breakpoint } ∧
    exec .cEbreak s = .next { s with mcause := 3#32, mepc := s.pc, mtval := 0#32, answer := .err .breakpoint }

/-- The CSR map and the order of the checks (the map is the spec's own decision D4). -/
def Obligations.CsrInstructions : Prop :=
  ∀ (s : State) (rd rs1 : Reg) (csr : BitVec 12) (uimm : BitVec 5),
    let a := s.getX rs1
    let u : Word := uimm.setWidth 32
    CsrRuns s csr rd True (fun _ => a) (exec (.csrrw rd csr rs1) s) ∧
    CsrRuns s csr rd (rs1 ≠ 0) (fun old => old ||| a) (exec (.csrrs rd csr rs1) s) ∧
    CsrRuns s csr rd (rs1 ≠ 0) (fun old => old &&& ~~~a) (exec (.csrrc rd csr rs1) s) ∧
    CsrRuns s csr rd True (fun _ => u) (exec (.csrrwi rd csr uimm) s) ∧
    CsrRuns s csr rd (uimm ≠ 0#5) (fun old => old ||| u) (exec (.csrrsi rd csr uimm) s) ∧
    CsrRuns s csr rd (uimm ≠ 0#5) (fun old => old &&& ~~~u) (exec (.csrrci rd csr uimm) s) ∧
    CsrTraps s csr True (.csrrw rd csr rs1) ∧
    CsrTraps s csr (rs1 ≠ 0) (.csrrs rd csr rs1) ∧
    CsrTraps s csr (rs1 ≠ 0) (.csrrc rd csr rs1) ∧
    CsrTraps s csr True (.csrrwi rd csr uimm) ∧
    CsrTraps s csr (uimm ≠ 0#5) (.csrrsi rd csr uimm) ∧
    CsrTraps s csr (uimm ≠ 0#5) (.csrrci rd csr uimm)

/-- Floating-point loads and stores (the 8-byte access is the spec's own decision D12; one request: log 8). -/
def Obligations.FpLoadsAndStores : Prop :=
  ∀ (s : State) (rd rs2 : FReg) (rs1 : Reg) (imm : BitVec 12), Memory.wf s.mem = true →
    let ea := s.getX rs1 + imm.signExtend 32
    let writes (v : DWord) : Effect s := { next := s.pc + 4#32, f := some (rd, v) }
    Loads s 4 ea (writes (0xffffffff#32 ++ s.wordAt ea)) (exec (.flw rd rs1 imm) s) ∧
    Loads s 8 ea (writes (s.doubleAt ea)) (exec (.fld rd rs1 imm) s) ∧
    Stores s 4#32 4 ea (s.getF rs2).toNat (exec (.fsw rs1 rs2 imm) s) ∧
    Stores s 4#32 8 ea (s.getF rs2).toNat (exec (.fsd rs1 rs2 imm) s) ∧
    (∀ k, accepts s.map k ea 8 = (accepts s.map k ea 4 && accepts s.map k (ea + 4#32) 4))

/-- Single-precision arithmetic; the kernel is pinned by the kernel statements below. -/
def Obligations.SingleArithmetic : Prop :=
  ∀ (s : State) (rd rs1 rs2 rs3 : FReg) (rm : BitVec 3) (m : RoundingMode), resolveRm rm s = some m →
    let a := s.readS rs1
    let b := s.readS rs2
    let c := s.readS rs3
    let neg (v : BitVec 32) := v ^^^ 0x80000000#32
    Commits s (singleEffect s rd (Kernel.fma .single m a b c)) (exec (.fmaddS rd rs1 rs2 rs3 rm) s) ∧
    Commits s (singleEffect s rd (Kernel.fma .single m a b (neg c))) (exec (.fmsubS rd rs1 rs2 rs3 rm) s) ∧
    Commits s (singleEffect s rd (Kernel.fma .single m (neg a) b c)) (exec (.fnmsubS rd rs1 rs2 rs3 rm) s) ∧
    Commits s (singleEffect s rd (Kernel.fma .single m (neg a) b (neg c))) (exec (.fnmaddS rd rs1 rs2 rs3 rm) s) ∧
    Commits s (singleEffect s rd (Kernel.add .single m a b)) (exec (.faddS rd rs1 rs2 rm) s) ∧
    Commits s (singleEffect s rd (Kernel.add .single m a (neg b))) (exec (.fsubS rd rs1 rs2 rm) s) ∧
    Commits s (singleEffect s rd (Kernel.mul .single m a b)) (exec (.fmulS rd rs1 rs2 rm) s) ∧
    Commits s (singleEffect s rd (Kernel.div .single m a b)) (exec (.fdivS rd rs1 rs2 rm) s) ∧
    Commits s (singleEffect s rd (Kernel.sqrt .single m a)) (exec (.fsqrtS rd rs1 rm) s)

/-- Double-precision arithmetic; the kernel is pinned by the kernel statements below. -/
def Obligations.DoubleArithmetic : Prop :=
  ∀ (s : State) (rd rs1 rs2 rs3 : FReg) (rm : BitVec 3) (m : RoundingMode), resolveRm rm s = some m →
    let a := s.getF rs1
    let b := s.getF rs2
    let c := s.getF rs3
    let neg (v : BitVec 64) := v ^^^ 0x8000000000000000#64
    Commits s (doubleEffect s rd (Kernel.fma .double m a b c)) (exec (.fmaddD rd rs1 rs2 rs3 rm) s) ∧
    Commits s (doubleEffect s rd (Kernel.fma .double m a b (neg c))) (exec (.fmsubD rd rs1 rs2 rs3 rm) s) ∧
    Commits s (doubleEffect s rd (Kernel.fma .double m (neg a) b c)) (exec (.fnmsubD rd rs1 rs2 rs3 rm) s) ∧
    Commits s (doubleEffect s rd (Kernel.fma .double m (neg a) b (neg c))) (exec (.fnmaddD rd rs1 rs2 rs3 rm) s) ∧
    Commits s (doubleEffect s rd (Kernel.add .double m a b)) (exec (.faddD rd rs1 rs2 rm) s) ∧
    Commits s (doubleEffect s rd (Kernel.add .double m a (neg b))) (exec (.fsubD rd rs1 rs2 rm) s) ∧
    Commits s (doubleEffect s rd (Kernel.mul .double m a b)) (exec (.fmulD rd rs1 rs2 rm) s) ∧
    Commits s (doubleEffect s rd (Kernel.div .double m a b)) (exec (.fdivD rd rs1 rs2 rm) s) ∧
    Commits s (doubleEffect s rd (Kernel.sqrt .double m a)) (exec (.fsqrtD rd rs1 rm) s)

/-- The single-precision instructions without a rounding mode. -/
def Obligations.SingleWithoutRounding : Prop :=
  ∀ (s : State) (rd rs1 rs2 : FReg) (xd xs : Reg),
    let a := s.readS rs1
    let b := s.readS rs2
    let low := a &&& 0x7fffffff#32
    let word (r : Bool × FlagSet) : Word × FlagSet := (if r.1 then 1#32 else 0#32, r.2)
    Commits s (singleEffect s rd (low ||| (b &&& 0x80000000#32), 0#5)) (exec (.fsgnjS rd rs1 rs2) s) ∧
    Commits s (singleEffect s rd (low ||| (~~~b &&& 0x80000000#32), 0#5)) (exec (.fsgnjnS rd rs1 rs2) s) ∧
    Commits s (singleEffect s rd (a ^^^ (b &&& 0x80000000#32), 0#5)) (exec (.fsgnjxS rd rs1 rs2) s) ∧
    Commits s (singleEffect s rd (Kernel.minNum .single a b)) (exec (.fminS rd rs1 rs2) s) ∧
    Commits s (singleEffect s rd (Kernel.maxNum .single a b)) (exec (.fmaxS rd rs1 rs2) s) ∧
    Commits s (intEffect s xd (word (Kernel.eq .single a b))) (exec (.feqS xd rs1 rs2) s) ∧
    Commits s (intEffect s xd (word (Kernel.lt .single a b))) (exec (.fltS xd rs1 rs2) s) ∧
    Commits s (intEffect s xd (word (Kernel.le .single a b))) (exec (.fleS xd rs1 rs2) s) ∧
    Commits s (intEffect s xd (Kernel.classify .single a, 0#5)) (exec (.fclassS xd rs1) s) ∧
    Commits s (intEffect s xd ((s.getF rs1).setWidth 32, 0#5)) (exec (.fmvXW xd rs1) s) ∧
    Commits s (singleEffect s rd (s.getX xs, 0#5)) (exec (.fmvWX rd xs) s)

/-- The double-precision instructions without a rounding mode. -/
def Obligations.DoubleWithoutRounding : Prop :=
  ∀ (s : State) (rd rs1 rs2 : FReg) (xd : Reg),
    let a := s.getF rs1
    let b := s.getF rs2
    let low := a &&& 0x7fffffffffffffff#64
    let word (r : Bool × FlagSet) : Word × FlagSet := (if r.1 then 1#32 else 0#32, r.2)
    Commits s (doubleEffect s rd (low ||| (b &&& 0x8000000000000000#64), 0#5)) (exec (.fsgnjD rd rs1 rs2) s) ∧
    Commits s (doubleEffect s rd (low ||| (~~~b &&& 0x8000000000000000#64), 0#5)) (exec (.fsgnjnD rd rs1 rs2) s) ∧
    Commits s (doubleEffect s rd (a ^^^ (b &&& 0x8000000000000000#64), 0#5)) (exec (.fsgnjxD rd rs1 rs2) s) ∧
    Commits s (doubleEffect s rd (Kernel.minNum .double a b)) (exec (.fminD rd rs1 rs2) s) ∧
    Commits s (doubleEffect s rd (Kernel.maxNum .double a b)) (exec (.fmaxD rd rs1 rs2) s) ∧
    Commits s (intEffect s xd (word (Kernel.eq .double a b))) (exec (.feqD xd rs1 rs2) s) ∧
    Commits s (intEffect s xd (word (Kernel.lt .double a b))) (exec (.fltD xd rs1 rs2) s) ∧
    Commits s (intEffect s xd (word (Kernel.le .double a b))) (exec (.fleD xd rs1 rs2) s) ∧
    Commits s (intEffect s xd (Kernel.classify .double a, 0#5)) (exec (.fclassD xd rs1) s)

/-- Conversions; singles are read unboxed and written boxed. -/
def Obligations.FpConversions : Prop :=
  ∀ (s : State) (rd rs1 : FReg) (xd xs : Reg) (rm : BitVec 3) (m : RoundingMode), resolveRm rm s = some m →
    let a := s.readS rs1
    let d := s.getF rs1
    let n := s.getX xs
    Commits s (intEffect s xd (Kernel.cvtFI .single m a true)) (exec (.fcvtWS xd rs1 rm) s) ∧
    Commits s (intEffect s xd (Kernel.cvtFI .single m a false)) (exec (.fcvtWuS xd rs1 rm) s) ∧
    Commits s (intEffect s xd (Kernel.cvtFI .double m d true)) (exec (.fcvtWD xd rs1 rm) s) ∧
    Commits s (intEffect s xd (Kernel.cvtFI .double m d false)) (exec (.fcvtWuD xd rs1 rm) s) ∧
    Commits s (singleEffect s rd (Kernel.cvtIF .single m n true)) (exec (.fcvtSW rd xs rm) s) ∧
    Commits s (singleEffect s rd (Kernel.cvtIF .single m n false)) (exec (.fcvtSWu rd xs rm) s) ∧
    Commits s (doubleEffect s rd (Kernel.cvtIF .double m n true)) (exec (.fcvtDW rd xs rm) s) ∧
    Commits s (doubleEffect s rd (Kernel.cvtIF .double m n false)) (exec (.fcvtDWu rd xs rm) s) ∧
    Commits s (singleEffect s rd (Kernel.cvtDS m d)) (exec (.fcvtSD rd rs1 rm) s) ∧
    Commits s (doubleEffect s rd (Kernel.cvtSD a)) (exec (.fcvtDS rd rs1 rm) s)

/-- ResolveRm, done first and for every instruction that has the field (D19). -/
def Obligations.RoundingModeResolution : Prop :=
  ∀ (s : State) (rd rs1 rs2 rs3 : FReg) (xd xs : Reg) (rm : BitVec 3),
    resolveRm rm s =
      [RoundingMode.rne, .rtz, .rdn, .rup, .rmm][(if rm = 7#3 then s.fcsr.extractLsb' 5 3 else rm).toNat]? ∧
    (resolveRm rm s = none →
      ∀ i ∈ [Instr.fmaddS rd rs1 rs2 rs3 rm, .fmsubS rd rs1 rs2 rs3 rm, .fnmsubS rd rs1 rs2 rs3 rm,
          .fnmaddS rd rs1 rs2 rs3 rm, .faddS rd rs1 rs2 rm, .fsubS rd rs1 rs2 rm, .fmulS rd rs1 rs2 rm,
          .fdivS rd rs1 rs2 rm, .fsqrtS rd rs1 rm, .fcvtWS xd rs1 rm, .fcvtWuS xd rs1 rm, .fcvtSW rd xs rm,
          .fcvtSWu rd xs rm, .fmaddD rd rs1 rs2 rs3 rm, .fmsubD rd rs1 rs2 rs3 rm, .fnmsubD rd rs1 rs2 rs3 rm,
          .fnmaddD rd rs1 rs2 rs3 rm, .faddD rd rs1 rs2 rm, .fsubD rd rs1 rs2 rm, .fmulD rd rs1 rs2 rm,
          .fdivD rd rs1 rs2 rm, .fsqrtD rd rs1 rm, .fcvtSD rd rs1 rm, .fcvtDS rd rs1 rm, .fcvtWD xd rs1 rm,
          .fcvtWuD xd rs1 rm, .fcvtDW rd xs rm, .fcvtDWu rd xs rm],
        ∃ w, encode i = .word w ∧ exec i s = Trapped s (.illegalInstruction w) [])

/-- Compressed integer computations; three-bit fields name registers 8 to 15. -/
def Obligations.CompressedInteger : Prop :=
  ∀ (s : State) (rd rs2 : Reg) (cd cs : CReg) (imm : BitVec 6) (shamt : BitVec 5) (imm10 : BitVec 10)
      (imm18 : BitVec 18) (d e : Reg), d.val = 8 + cd.val → e.val = 8 + cs.val →
    let a := s.getX d
    let b := s.getX e
    let writes (r : Reg) (v : Word) (o : Result) := Commits s { next := s.pc + 2#32, x := some (r, v) } o
    writes d (s.getX 2 + imm10.setWidth 32) (exec (.cAddi4spn cd imm10) s) ∧
    writes 0 (imm.signExtend 32) (exec (.cNop imm) s) ∧
    writes rd (s.getX rd + imm.signExtend 32) (exec (.cAddi rd imm) s) ∧
    writes rd (imm.signExtend 32) (exec (.cLi rd imm) s) ∧
    writes 2 (s.getX 2 + imm10.signExtend 32) (exec (.cAddi16sp imm10) s) ∧
    writes rd (imm18.signExtend 32) (exec (.cLui rd imm18) s) ∧
    writes d (BitVec.ofNat 32 (a.toNat / 2 ^ shamt.toNat)) (exec (.cSrli cd shamt) s) ∧
    writes d (BitVec.ofInt 32 (a.toInt / 2 ^ shamt.toNat)) (exec (.cSrai cd shamt) s) ∧
    writes d (a &&& imm.signExtend 32) (exec (.cAndi cd imm) s) ∧
    writes d (a - b) (exec (.cSub cd cs) s) ∧
    writes d (a ^^^ b) (exec (.cXor cd cs) s) ∧
    writes d (a ||| b) (exec (.cOr cd cs) s) ∧
    writes d (a &&& b) (exec (.cAnd cd cs) s) ∧
    writes rd (BitVec.ofNat 32 ((s.getX rd).toNat * 2 ^ shamt.toNat)) (exec (.cSlli rd shamt) s) ∧
    writes rd (s.getX rs2) (exec (.cMv rd rs2) s) ∧
    writes rd (s.getX rd + s.getX rs2) (exec (.cAdd rd rs2) s)

/-- Compressed loads and stores, integer and floating-point. -/
def Obligations.CompressedLoadsAndStores : Prop :=
  ∀ (s : State) (c1 c2 : CReg) (r1 r2 : Reg) (rd rs2 : Reg) (u7 : BitVec 7) (u8 : BitVec 8) (u9 : BitVec 9),
    Memory.wf s.mem = true → r1.val = 8 + c1.val → r2.val = 8 + c2.val →
    let e7 := s.getX r1 + u7.setWidth 32
    let e8 := s.getX r1 + u8.setWidth 32
    let sp8 := s.getX 2 + u8.setWidth 32
    let sp9 := s.getX 2 + u9.setWidth 32
    let toX (r : Reg) (v : Word) : Effect s := { next := s.pc + 2#32, x := some (r, v) }
    let toF (r : FReg) (v : DWord) : Effect s := { next := s.pc + 2#32, f := some (r, v) }
    Loads s 4 e7 (toX r2 (s.wordAt e7)) (exec (.cLw c2 c1 u7) s) ∧
    Loads s 4 e7 (toF r2 (0xffffffff#32 ++ s.wordAt e7)) (exec (.cFlw c2 c1 u7) s) ∧
    Loads s 8 e8 (toF r2 (s.doubleAt e8)) (exec (.cFld c2 c1 u8) s) ∧
    Stores s 2#32 4 e7 (s.getX r2).toNat (exec (.cSw c1 c2 u7) s) ∧
    Stores s 2#32 4 e7 (s.getF r2).toNat (exec (.cFsw c1 c2 u7) s) ∧
    Stores s 2#32 8 e8 (s.getF r2).toNat (exec (.cFsd c1 c2 u8) s) ∧
    Loads s 4 sp8 (toX rd (s.wordAt sp8)) (exec (.cLwsp rd u8) s) ∧
    Loads s 4 sp8 (toF rd (0xffffffff#32 ++ s.wordAt sp8)) (exec (.cFlwsp rd u8) s) ∧
    Loads s 8 sp9 (toF rd (s.doubleAt sp9)) (exec (.cFldsp rd u9) s) ∧
    Stores s 2#32 4 sp8 (s.getX rs2).toNat (exec (.cSwsp rs2 u8) s) ∧
    Stores s 2#32 4 sp8 (s.getF rs2).toNat (exec (.cFswsp rs2 u8) s) ∧
    Stores s 2#32 8 sp9 (s.getF rs2).toNat (exec (.cFsdsp rs2 u9) s)

/-- Compressed control transfer. The trap clauses are those of the expansions; with RV32C on, an even pc and a
well-formed instruction they do not happen (NoTargetTrapsWithC), so they speak of terms that no step runs from an even
pc (log 10, log 23). -/
def Obligations.CompressedControl : Prop :=
  ∀ (s : State) (rs1 : Reg) (c : CReg) (r : Reg) (o12 : BitVec 12) (o9 : BitVec 9), r.val = 8 + c.val →
    Jumps s 2#32 1 (s.pc + o12.signExtend 32) (exec (.cJal o12) s) ∧
    Jumps s 2#32 0 (s.pc + o12.signExtend 32) (exec (.cJ o12) s) ∧
    Jumps s 2#32 0 (s.getX rs1 &&& 0xfffffffe#32) (exec (.cJr rs1) s) ∧
    Jumps s 2#32 1 (s.getX rs1 &&& 0xfffffffe#32) (exec (.cJalr rs1) s) ∧
    Branches s 2#32 (s.getX r = 0#32) (s.pc + o9.signExtend 32) (exec (.cBeqz c o9) s) ∧
    Branches s 2#32 (s.getX r ≠ 0#32) (s.pc + o9.signExtend 32) (exec (.cBnez c o9) s)

/-- A 16-bit instruction executes exactly as its expansion with ilen 2. -/
def Obligations.CompressedRunsAsItsExpansion : Prop :=
  ∀ (s t : State) (i j : Instr), i.wellFormed = true → expansion i = some j → exec j s = .next t →
    (t.answer ≠ .ok → exec i s = .next t) ∧
    (t.answer = .ok → takenTarget s j = none → exec i s = .next { t with pc := s.pc + 2#32 }) ∧
    (t.answer = .ok → takenTarget s j ≠ none →
      ∃ u, exec i s = .next u ∧ u = { t with x := u.x } ∧
        ∀ k, u.getX k = if k = 1 ∧ ((∃ imm, i = .cJal imm) ∨ ∃ r, i = .cJalr r) then s.pc + 2#32 else t.getX k)

/-- RoundPack of 46_fp_kernel.md, bit for bit and flag for flag (tininess: the spec's own decision D20). -/
def Obligations.RoundPackRule : Prop :=
  ∀ (fmt : Fmt) (m : RoundingMode) (s : Bool) (mant : Nat) (exp : Int), mant ≠ 0 →
    Kernel.roundPack fmt m s mant exp false =
      Kernel.RoundPack fmt m ((if s then -1 else 1) * (mant : ℝ) * 2 ^ exp)

/-- The four operations on finite operands (46_fp_kernel.md). -/
def Obligations.ArithmeticIsCorrectlyRounded : Prop :=
  ∀ (fmt : Fmt) (m : RoundingMode) (x y : BitVec fmt.width), Kernel.isFinite x = true → Kernel.isFinite y = true →
    let vx : ℝ := (Kernel.value x : ℚ)
    let vy : ℝ := (Kernel.value y : ℚ)
    (vx + vy ≠ 0 → Kernel.add fmt m x y = Kernel.RoundPack fmt m (vx + vy)) ∧
    (vx - vy ≠ 0 → Kernel.sub fmt m x y = Kernel.RoundPack fmt m (vx - vy)) ∧
    (vx * vy ≠ 0 → Kernel.mul fmt m x y = Kernel.RoundPack fmt m (vx * vy)) ∧
    (vx ≠ 0 → vy ≠ 0 → Kernel.div fmt m x y = Kernel.RoundPack fmt m (vx / vy))

/-- The special cases of the four operations, in the order of 46_fp_kernel.md. -/
def Obligations.ArithmeticSpecialCases : Prop :=
  ∀ (fmt : Fmt) (m : RoundingMode) (x y : BitVec fmt.width),
    let sx := Kernel.sign x
    let sy := Kernel.sign y
    let cancel := decide (m = .rdn)
    let nan := (Kernel.cNaN fmt, if Kernel.isSignaling x || Kernel.isSignaling y then flagNV else noFlags)
    let invalid := (Kernel.cNaN fmt, flagNV)
    let inf := (Kernel.infinity fmt (sx ^^ sy), noFlags)
    let zero := (Kernel.zero fmt (sx ^^ sy), noFlags)
    (Kernel.isNaN x = true ∨ Kernel.isNaN y = true →
      Kernel.add fmt m x y = nan ∧ Kernel.sub fmt m x y = nan ∧ Kernel.mul fmt m x y = nan ∧
      Kernel.div fmt m x y = nan) ∧
    (Kernel.isNaN x = false → Kernel.isNaN y = false →
      (Kernel.isInf x = true → Kernel.isInf y = true → sx ≠ sy → Kernel.add fmt m x y = invalid) ∧
      (Kernel.isInf x = true → (Kernel.isInf y = true → sx = sy) → Kernel.add fmt m x y = (x, noFlags)) ∧
      (Kernel.isInf x = false → Kernel.isInf y = true → Kernel.add fmt m x y = (y, noFlags)) ∧
      (Kernel.isZero x = true → Kernel.isZero y = true →
        Kernel.add fmt m x y = (Kernel.zero fmt (if sx = sy then sx else cancel), noFlags)) ∧
      (Kernel.isFinite x = true → Kernel.isZero x = false → y = Kernel.negate x →
        Kernel.add fmt m x y = (Kernel.zero fmt cancel, noFlags)) ∧
      (Kernel.isInf x = true ∧ Kernel.isZero y = true ∨ Kernel.isZero x = true ∧ Kernel.isInf y = true →
        Kernel.mul fmt m x y = invalid) ∧
      (Kernel.isInf x = true ∧ Kernel.isZero y = false ∨ Kernel.isZero x = false ∧ Kernel.isInf y = true →
        Kernel.mul fmt m x y = inf) ∧
      (Kernel.isZero x = true ∧ Kernel.isInf y = false ∨ Kernel.isInf x = false ∧ Kernel.isZero y = true →
        Kernel.mul fmt m x y = zero) ∧
      (Kernel.isInf x = true → Kernel.isInf y = true → Kernel.div fmt m x y = invalid) ∧
      (Kernel.isInf x = true → Kernel.isInf y = false → Kernel.div fmt m x y = inf) ∧
      (Kernel.isInf x = false → Kernel.isInf y = true → Kernel.div fmt m x y = zero) ∧
      (Kernel.isZero x = true → Kernel.isZero y = true → Kernel.div fmt m x y = invalid) ∧
      (Kernel.isFinite x = true → Kernel.isZero x = false → Kernel.isZero y = true →
        Kernel.div fmt m x y = (Kernel.infinity fmt (sx ^^ sy), flagDZ)) ∧
      (Kernel.isZero x = true → Kernel.isFinite y = true → Kernel.isZero y = false →
        Kernel.div fmt m x y = zero)) ∧
    Kernel.sub fmt m x y = Kernel.add fmt m x (Kernel.negate y)

/-- Fma of 46_fp_kernel.md (the order of the first two cases is the spec's own decision D21). -/
def Obligations.FusedMultiplyAddRule : Prop :=
  ∀ (fmt : Fmt) (m : RoundingMode) (x y z : BitVec fmt.width),
    let sp := Kernel.sign x ^^ Kernel.sign y
    let invalid := (Kernel.cNaN fmt, flagNV)
    let infTimesZero :=
      Kernel.isInf x = true ∧ Kernel.isZero y = true ∨ Kernel.isZero x = true ∧ Kernel.isInf y = true
    let anyNaN := Kernel.isNaN x = true ∨ Kernel.isNaN y = true ∨ Kernel.isNaN z = true
    let infProduct := Kernel.isInf x = true ∨ Kernel.isInf y = true
    (infTimesZero → Kernel.fma fmt m x y z = invalid) ∧
    (¬infTimesZero → anyNaN →
      Kernel.fma fmt m x y z = (Kernel.cNaN fmt,
        if Kernel.isSignaling x || Kernel.isSignaling y || Kernel.isSignaling z then flagNV else noFlags)) ∧
    (¬infTimesZero → ¬anyNaN → infProduct →
      Kernel.fma fmt m x y z =
        if Kernel.isInf z = true ∧ Kernel.sign z ≠ sp then invalid else (Kernel.infinity fmt sp, noFlags)) ∧
    (¬anyNaN → ¬infProduct → Kernel.isInf z = true → Kernel.fma fmt m x y z = (z, noFlags)) ∧
    (Kernel.isFinite x = true → Kernel.isFinite y = true → Kernel.isFinite z = true →
      let r : ℝ := (Kernel.value x : ℚ) * (Kernel.value y : ℚ) + (Kernel.value z : ℚ)
      (r ≠ 0 → Kernel.fma fmt m x y z = Kernel.RoundPack fmt m r) ∧
      (r = 0 → Kernel.fma fmt m x y z =
        (Kernel.zero fmt
          (if (Kernel.isZero x = true ∨ Kernel.isZero y = true) ∧ Kernel.isZero z = true ∧ sp = Kernel.sign z then sp
           else decide (m = .rdn)), noFlags)))

/-- Sqrt of 46_fp_kernel.md. -/
def Obligations.SquareRootRule : Prop :=
  ∀ (fmt : Fmt) (m : RoundingMode) (x : BitVec fmt.width),
    (Kernel.isNaN x = true →
      Kernel.sqrt fmt m x = (Kernel.cNaN fmt, if Kernel.isSignaling x then flagNV else noFlags)) ∧
    (Kernel.isZero x = true → Kernel.sqrt fmt m x = (x, noFlags)) ∧
    (Kernel.isNaN x = false → Kernel.isZero x = false → Kernel.sign x = true →
      Kernel.sqrt fmt m x = (Kernel.cNaN fmt, flagNV)) ∧
    (Kernel.isInf x = true → Kernel.sign x = false → Kernel.sqrt fmt m x = (x, noFlags)) ∧
    (Kernel.isFinite x = true → Kernel.isZero x = false → Kernel.sign x = false →
      Kernel.sqrt fmt m x = Kernel.RoundPack fmt m (Real.sqrt ((Kernel.value x : ℚ) : ℝ)))

/-- CvtFI and CvtIF of 46_fp_kernel.md (the saturation values are the spec's own decision D22). -/
def Obligations.IntegerConversionRule : Prop :=
  ∀ (fmt : Fmt) (m : RoundingMode) (x : BitVec fmt.width) (signed : Bool) (n : Word),
    let lo : Int := if signed then -2 ^ 31 else 0
    let hi : Int := if signed then 2 ^ 31 - 1 else 2 ^ 32 - 1
    let v : ℝ := (Kernel.value x : ℚ)
    let r : Int := if Kernel.sign x then -Kernel.RInt m true |v| else Kernel.RInt m false |v|
    let i : Int := if signed then n.toInt else n.toNat
    (Kernel.isNaN x = true → Kernel.cvtFI fmt m x signed = (BitVec.ofInt 32 hi, flagNV)) ∧
    (Kernel.isInf x = true →
      Kernel.cvtFI fmt m x signed = (BitVec.ofInt 32 (if Kernel.sign x then lo else hi), flagNV)) ∧
    (Kernel.isFinite x = true → r < lo → Kernel.cvtFI fmt m x signed = (BitVec.ofInt 32 lo, flagNV)) ∧
    (Kernel.isFinite x = true → hi < r → Kernel.cvtFI fmt m x signed = (BitVec.ofInt 32 hi, flagNV)) ∧
    (Kernel.isFinite x = true → lo ≤ r → r ≤ hi → (r : ℝ) = v →
      Kernel.cvtFI fmt m x signed = (BitVec.ofInt 32 r, noFlags)) ∧
    (Kernel.isFinite x = true → lo ≤ r → r ≤ hi → (r : ℝ) ≠ v →
      Kernel.cvtFI fmt m x signed = (BitVec.ofInt 32 r, flagNX)) ∧
    (i = 0 → Kernel.cvtIF fmt m n signed = (0#_, noFlags)) ∧
    (i ≠ 0 → Kernel.cvtIF fmt m n signed = Kernel.RoundPack fmt m (i : ℝ))

/-- CvtSD and CvtDS of 46_fp_kernel.md. -/
def Obligations.FormatConversionRule : Prop :=
  ∀ (m : RoundingMode) (x : Word) (d : DWord),
    let isNaNS := Kernel.isNaN (fmt := .single)
    let isNaND := Kernel.isNaN (fmt := .double)
    let isInfS := Kernel.isInf (fmt := .single)
    let isInfD := Kernel.isInf (fmt := .double)
    let isZeroD := Kernel.isZero (fmt := .double)
    let sD := Kernel.sign (fmt := .double)
    (isNaNS x = true → Kernel.cvtSD x =
      (0x7ff8000000000000#64, if Kernel.isSignaling (fmt := .single) x then flagNV else noFlags)) ∧
    (isNaNS x = false → (Kernel.cvtSD x).2 = noFlags ∧ sD (Kernel.cvtSD x).1 = Kernel.sign (fmt := .single) x ∧
      isNaND (Kernel.cvtSD x).1 = false ∧ isInfD (Kernel.cvtSD x).1 = isInfS x ∧
      (isInfS x = false →
        Kernel.value (fmt := .double) (Kernel.cvtSD x).1 = Kernel.value (fmt := .single) x) ∧
      Kernel.cvtDS m (Kernel.cvtSD x).1 = (x, noFlags)) ∧
    (isNaND d = true → Kernel.cvtDS m d =
      (0x7fc00000#32, if Kernel.isSignaling (fmt := .double) d then flagNV else noFlags)) ∧
    (isInfD d = true → Kernel.cvtDS m d = (if sD d then 0xff800000#32 else 0x7f800000#32, noFlags)) ∧
    (isZeroD d = true → Kernel.cvtDS m d = (if sD d then 0x80000000#32 else 0x00000000#32, noFlags)) ∧
    (Kernel.isFinite (fmt := .double) d = true → isZeroD d = false →
      Kernel.cvtDS m d = Kernel.RoundPack .single m ((Kernel.value (fmt := .double) d : ℚ) : ℝ))

/-- R317 and R318; `extendedValue` orders the infinities beyond every finite value. -/
def Obligations.ComparisonRule : Prop :=
  ∀ (fmt : Fmt) (x y : BitVec fmt.width),
    let nan := Kernel.isNaN x || Kernel.isNaN y
    let nv := if Kernel.isSignaling x || Kernel.isSignaling y then flagNV else noFlags
    let vx := Kernel.extendedValue x
    let vy := Kernel.extendedValue y
    (nan = true →
      Kernel.eq fmt x y = (false, nv) ∧ Kernel.lt fmt x y = (false, flagNV) ∧ Kernel.le fmt x y = (false, flagNV)) ∧
    (nan = false →
      Kernel.eq fmt x y = (decide (vx = vy), noFlags) ∧ Kernel.lt fmt x y = (decide (vx < vy), noFlags) ∧
      Kernel.le fmt x y = (decide (vx ≤ vy), noFlags)) ∧
    (Kernel.minNum fmt x y).2 = nv ∧ (Kernel.maxNum fmt x y).2 = nv ∧
    (Kernel.isNaN x = true → Kernel.isNaN y = true →
      (Kernel.minNum fmt x y).1 = Kernel.cNaN fmt ∧ (Kernel.maxNum fmt x y).1 = Kernel.cNaN fmt) ∧
    (Kernel.isNaN x = true → Kernel.isNaN y = false →
      (Kernel.minNum fmt x y).1 = y ∧ (Kernel.maxNum fmt x y).1 = y) ∧
    (Kernel.isNaN x = false → Kernel.isNaN y = true →
      (Kernel.minNum fmt x y).1 = x ∧ (Kernel.maxNum fmt x y).1 = x) ∧
    (nan = false → vx < vy → (Kernel.minNum fmt x y).1 = x ∧ (Kernel.maxNum fmt x y).1 = y) ∧
    (nan = false → vy < vx → (Kernel.minNum fmt x y).1 = y ∧ (Kernel.maxNum fmt x y).1 = x) ∧
    (nan = false → vx = vy → x ≠ y →
      (Kernel.minNum fmt x y).1 = Kernel.zero fmt true ∧ (Kernel.maxNum fmt x y).1 = Kernel.zero fmt false) ∧
    (nan = false → x = y → (Kernel.minNum fmt x y).1 = x ∧ (Kernel.maxNum fmt x y).1 = x)

/-- R319, on the fields of the pattern. -/
def Obligations.ClassifyRule : Prop :=
  ∀ (fmt : Fmt) (x : BitVec fmt.width),
    let s := Kernel.sign x
    let e := Kernel.expField x
    let f := Kernel.fracField x
    let top := fmt.expMax
    let c := (Kernel.classify fmt x).toNat
    (s = true → e = top → f = 0 → c = 2 ^ 0) ∧
    (s = true → e ≠ top → e ≠ 0 → c = 2 ^ 1) ∧
    (s = true → e = 0 → f ≠ 0 → c = 2 ^ 2) ∧
    (s = true → e = 0 → f = 0 → c = 2 ^ 3) ∧
    (s = false → e = 0 → f = 0 → c = 2 ^ 4) ∧
    (s = false → e = 0 → f ≠ 0 → c = 2 ^ 5) ∧
    (s = false → e ≠ top → e ≠ 0 → c = 2 ^ 6) ∧
    (s = false → e = top → f = 0 → c = 2 ^ 7) ∧
    (e = top → f ≠ 0 → f < 2 ^ (fmt.fracBits - 1) → c = 2 ^ 8) ∧
    (e = top → 2 ^ (fmt.fracBits - 1) ≤ f → c = 2 ^ 9)

/-- Properties a proof can rely on (46_fp_kernel.md). -/
def Obligations.OnlyCanonicalNaN : Prop :=
  ∀ (fmt : Fmt) (m : RoundingMode) (x y z : BitVec fmt.width) (d : DWord) (w : Word) (signed : Bool),
    (∀ r ∈ [(Kernel.add fmt m x y).1, (Kernel.sub fmt m x y).1, (Kernel.mul fmt m x y).1, (Kernel.div fmt m x y).1,
        (Kernel.sqrt fmt m x).1, (Kernel.fma fmt m x y z).1, (Kernel.minNum fmt x y).1, (Kernel.maxNum fmt x y).1,
        (Kernel.cvtIF fmt m w signed).1],
      Kernel.isNaN r = true → r = Kernel.cNaN fmt) ∧
    (Kernel.isNaN (fmt := .single) (Kernel.cvtDS m d).1 = true → (Kernel.cvtDS m d).1 = Kernel.cNaN .single) ∧
    (Kernel.isNaN (fmt := .double) (Kernel.cvtSD w).1 = true → (Kernel.cvtSD w).1 = Kernel.cNaN .double) ∧
    Kernel.add fmt m x y = Kernel.add fmt m y x ∧ Kernel.mul fmt m x y = Kernel.mul fmt m y x
end

