-- ==== Sys2Proof/Laws/Memory.lean ====
section
/-!
SUPPORT. The laws of memory: one byte read after a write, and that every memory operation keeps the canonical form.
-/

namespace Sys2Proof.Machine

theorem Memory.wfFrom_cons {lo k : Nat} {b : Byte} {m : Memory} :
    Memory.wfFrom lo ((k, b) :: m) = true ↔
      lo ≤ k ∧ k < 2 ^ 32 ∧ b ≠ unlisted ∧ Memory.wfFrom (k + 1) m = true := by
  simp [Memory.wfFrom, and_assoc]

theorem Memory.wfFrom_mono {lo lo' : Nat} {m : Memory} (h : lo ≤ lo') (hm : Memory.wfFrom lo' m = true) :
    Memory.wfFrom lo m = true := by
  cases m with
  | nil => rfl
  | cons c rest =>
    rw [Memory.wfFrom_cons] at *
    exact ⟨h.trans hm.1, hm.2⟩

/-- Below the first address of a canonical memory nothing is listed. -/
theorem Memory.read_below {lo a : Nat} {m : Memory} (hm : Memory.wfFrom lo m = true) (ha : a < lo) :
    Memory.read m a = unlisted := by
  induction m generalizing lo with
  | nil => rfl
  | cons c rest ih =>
    obtain ⟨hlo, -, -, hrest⟩ := Memory.wfFrom_cons.1 hm
    have hne : c.1 ≠ a := by omega
    simpa [Memory.read, hne] using ih hrest (by omega)

/-- Writing one byte keeps the canonical form. -/
theorem Memory.write_wfFrom {lo a : Nat} {b : Byte} {m : Memory} (hm : Memory.wfFrom lo m = true) (hlo : lo ≤ a)
    (ha : a < 2 ^ 32) : Memory.wfFrom lo (Memory.write m a b) = true := by
  induction m generalizing lo with
  | nil =>
    by_cases hb : b = unlisted
    · simp [Memory.write, hb, Memory.wfFrom]
    · simpa [Memory.write, hb, Memory.wfFrom] using ⟨hlo, ha⟩
  | cons c rest ih =>
    obtain ⟨k, v⟩ := c
    obtain ⟨h1, h2, h3, h4⟩ := Memory.wfFrom_cons.1 hm
    unfold Memory.write
    split_ifs with hak hb hak' hb
    · exact hm
    · exact Memory.wfFrom_cons.2 ⟨hlo, ha, hb, Memory.wfFrom_cons.2 ⟨hak, h2, h3, h4⟩⟩
    · exact Memory.wfFrom_mono (by omega) h4
    · exact Memory.wfFrom_cons.2 ⟨hlo, ha, hb, hak' ▸ h4⟩
    · exact Memory.wfFrom_cons.2 ⟨h1, h2, h3, ih h4 (by omega)⟩

theorem Memory.write_wf {a : Nat} {b : Byte} {m : Memory} (hm : Memory.wf m = true) (ha : a < 2 ^ 32) :
    Memory.wf (Memory.write m a b) = true :=
  Memory.write_wfFrom hm (Nat.zero_le a) ha

/-- A byte just written is read back. -/
theorem Memory.read_write_same {lo a : Nat} {b : Byte} {m : Memory} (hm : Memory.wfFrom lo m = true) :
    Memory.read (Memory.write m a b) a = b := by
  induction m generalizing lo with
  | nil =>
    by_cases hb : b = unlisted <;> simp [Memory.write, Memory.read, hb]
  | cons c rest ih =>
    obtain ⟨k, v⟩ := c
    obtain ⟨-, -, -, h4⟩ := Memory.wfFrom_cons.1 hm
    unfold Memory.write
    split_ifs with hak hb hak' hb
    · have hne : ¬ k = a := by omega
      rw [Memory.read, if_neg hne, hb]
      exact Memory.read_below h4 (by omega)
    · simp [Memory.read]
    · rw [hb]
      exact Memory.read_below h4 (by omega)
    · simp [Memory.read]
    · have hne : ¬ k = a := fun h => hak' h.symm
      rw [Memory.read, if_neg hne]
      exact ih h4

/-- A write leaves every other byte alone. -/
theorem Memory.read_write_other {a a' : Nat} {b : Byte} (m : Memory) (h : a' ≠ a) :
    Memory.read (Memory.write m a b) a' = Memory.read m a' := by
  induction m with
  | nil =>
    by_cases hb : b = unlisted <;> simp [Memory.write, Memory.read, hb, h.symm]
  | cons c rest ih =>
    obtain ⟨k, v⟩ := c
    unfold Memory.write
    split_ifs with hak hb hak' hb
    · rfl
    · simp [Memory.read, h.symm]
    · subst hak'
      simp [Memory.read, h.symm]
    · subst hak'
      simp [Memory.read, h.symm]
    · simp [Memory.read, ih]

/-- Writing several bytes keeps the canonical form. -/
theorem writeBytes_wf (n : Nat) {m : Memory} (hm : Memory.wf m = true) (a : Word) (v : BitVec (8 * n)) :
    Memory.wf (writeBytes n m a v) = true := by
  induction n generalizing m a with
  | zero => exact hm
  | succ n ih => exact ih (Memory.write_wf hm a.isLt) _ _

/-- An accepted store keeps the canonical form. -/
theorem stored_wf (n : Nat) (ea : Word) (v : BitVec (8 * n)) {s : State} (hs : Memory.wf s.mem = true) :
    Memory.wf (s.stored n ea v).mem = true :=
  writeBytes_wf n hs ea v

/-- Placing an instruction keeps the canonical form. -/
theorem withFetchWord_wf (nbits w : Nat) {s : State} (hs : Memory.wf s.mem = true) :
    Memory.wf (s.withFetchWord nbits w).mem = true :=
  writeBytes_wf 4 hs s.pc _

/-- A host action keeps the canonical form. -/
theorem hostApply_wf (a : HostAction) {s : State} (hs : Memory.wf s.mem = true) :
    Memory.wf (hostApply a s).mem = true := by
  cases a with
  | setX r v =>
    show Memory.wf (s.setX r v).mem = true
    unfold State.setX
    split <;> exact hs
  | setClock v =>
    show Memory.wf (hostSetClock v s).mem = true
    unfold hostSetClock
    split <;> exact hs
  | setByte ad b => exact Memory.write_wf hs ad.isLt
  | setF _ _ | setPc _ | setFcsr _ | setMcause _ | setMepc _ | setMtval _ | setReservation _ | setMap _ | reset =>
    exact hs

theorem reset_mem_wf (cfg : Config) : Memory.wf (State.resetWith cfg).mem = true := rfl

end Sys2Proof.Machine
end

