-- ==== Sys2Proof/Laws/State.lean ====
section
/-!
SUPPORT. One lemma per field per update of State, so that no proof unfolds a record update; the register reads after
each update; and the reads after the writes of the same register.
-/

namespace Sys2Proof.Machine

/-! ### State.setX -/

@[simp] theorem State.setX_cfg (r : Reg) (v : Word) (s : State) : (s.setX r v).cfg = s.cfg := by
  unfold State.setX; split <;> rfl
@[simp] theorem State.setX_map (r : Reg) (v : Word) (s : State) : (s.setX r v).map = s.map := by
  unfold State.setX; split <;> rfl
@[simp] theorem State.setX_mem (r : Reg) (v : Word) (s : State) : (s.setX r v).mem = s.mem := by
  unfold State.setX; split <;> rfl
@[simp] theorem State.setX_f (r : Reg) (v : Word) (s : State) : (s.setX r v).f = s.f := by
  unfold State.setX; split <;> rfl
@[simp] theorem State.setX_pc (r : Reg) (v : Word) (s : State) : (s.setX r v).pc = s.pc := by
  unfold State.setX; split <;> rfl
@[simp] theorem State.setX_fcsr (r : Reg) (v : Word) (s : State) : (s.setX r v).fcsr = s.fcsr := by
  unfold State.setX; split <;> rfl
@[simp] theorem State.setX_mcause (r : Reg) (v : Word) (s : State) : (s.setX r v).mcause = s.mcause := by
  unfold State.setX; split <;> rfl
@[simp] theorem State.setX_mepc (r : Reg) (v : Word) (s : State) : (s.setX r v).mepc = s.mepc := by
  unfold State.setX; split <;> rfl
@[simp] theorem State.setX_mtval (r : Reg) (v : Word) (s : State) : (s.setX r v).mtval = s.mtval := by
  unfold State.setX; split <;> rfl
@[simp] theorem State.setX_reservation (r : Reg) (v : Word) (s : State) : (s.setX r v).reservation = s.reservation := by
  unfold State.setX; split <;> rfl
@[simp] theorem State.setX_clock (r : Reg) (v : Word) (s : State) : (s.setX r v).clock = s.clock := by
  unfold State.setX; split <;> rfl
@[simp] theorem State.setX_answer (r : Reg) (v : Word) (s : State) : (s.setX r v).answer = s.answer := by
  unfold State.setX; split <;> rfl
@[simp] theorem State.setX_bus (r : Reg) (v : Word) (s : State) : (s.setX r v).bus = s.bus := by
  unfold State.setX; split <;> rfl
@[simp] theorem State.setX_getF (r : Reg) (v : Word) (s : State) (k : FReg) : (s.setX r v).getF k = s.getF k := by
  unfold State.getF; simp
@[simp] theorem State.setX_readS (r : Reg) (v : Word) (s : State) (k : FReg) : (s.setX r v).readS k = s.readS k := by
  unfold State.readS; simp
@[simp] theorem State.setX_frm (r : Reg) (v : Word) (s : State) : (s.setX r v).frm = s.frm := by
  unfold State.frm; simp
@[simp] theorem State.setX_fflags (r : Reg) (v : Word) (s : State) : (s.setX r v).fflags = s.fflags := by
  unfold State.fflags; simp

/-! ### State.setF -/

@[simp] theorem State.setF_cfg (r : FReg) (v : DWord) (s : State) : (s.setF r v).cfg = s.cfg := rfl
@[simp] theorem State.setF_map (r : FReg) (v : DWord) (s : State) : (s.setF r v).map = s.map := rfl
@[simp] theorem State.setF_mem (r : FReg) (v : DWord) (s : State) : (s.setF r v).mem = s.mem := rfl
@[simp] theorem State.setF_x (r : FReg) (v : DWord) (s : State) : (s.setF r v).x = s.x := rfl
@[simp] theorem State.setF_f (r : FReg) (v : DWord) (s : State) : (s.setF r v).f = s.f.set r.val v r.isLt := rfl
@[simp] theorem State.setF_pc (r : FReg) (v : DWord) (s : State) : (s.setF r v).pc = s.pc := rfl
@[simp] theorem State.setF_fcsr (r : FReg) (v : DWord) (s : State) : (s.setF r v).fcsr = s.fcsr := rfl
@[simp] theorem State.setF_mcause (r : FReg) (v : DWord) (s : State) : (s.setF r v).mcause = s.mcause := rfl
@[simp] theorem State.setF_mepc (r : FReg) (v : DWord) (s : State) : (s.setF r v).mepc = s.mepc := rfl
@[simp] theorem State.setF_mtval (r : FReg) (v : DWord) (s : State) : (s.setF r v).mtval = s.mtval := rfl
@[simp] theorem State.setF_reservation (r : FReg) (v : DWord) (s : State) : (s.setF r v).reservation = s.reservation := rfl
@[simp] theorem State.setF_clock (r : FReg) (v : DWord) (s : State) : (s.setF r v).clock = s.clock := rfl
@[simp] theorem State.setF_answer (r : FReg) (v : DWord) (s : State) : (s.setF r v).answer = s.answer := rfl
@[simp] theorem State.setF_bus (r : FReg) (v : DWord) (s : State) : (s.setF r v).bus = s.bus := rfl
@[simp] theorem State.setF_getX (r : FReg) (v : DWord) (s : State) (k : Reg) : (s.setF r v).getX k = s.getX k := rfl
@[simp] theorem State.setF_frm (r : FReg) (v : DWord) (s : State) : (s.setF r v).frm = s.frm := rfl
@[simp] theorem State.setF_fflags (r : FReg) (v : DWord) (s : State) : (s.setF r v).fflags = s.fflags := rfl

/-! ### State.writeS -/

@[simp] theorem State.writeS_cfg (r : FReg) (v : Word) (s : State) : (s.writeS r v).cfg = s.cfg := rfl
@[simp] theorem State.writeS_map (r : FReg) (v : Word) (s : State) : (s.writeS r v).map = s.map := rfl
@[simp] theorem State.writeS_mem (r : FReg) (v : Word) (s : State) : (s.writeS r v).mem = s.mem := rfl
@[simp] theorem State.writeS_x (r : FReg) (v : Word) (s : State) : (s.writeS r v).x = s.x := rfl
@[simp] theorem State.writeS_f (r : FReg) (v : Word) (s : State) : (s.writeS r v).f = s.f.set r.val (box v) r.isLt := rfl
@[simp] theorem State.writeS_pc (r : FReg) (v : Word) (s : State) : (s.writeS r v).pc = s.pc := rfl
@[simp] theorem State.writeS_fcsr (r : FReg) (v : Word) (s : State) : (s.writeS r v).fcsr = s.fcsr := rfl
@[simp] theorem State.writeS_mcause (r : FReg) (v : Word) (s : State) : (s.writeS r v).mcause = s.mcause := rfl
@[simp] theorem State.writeS_mepc (r : FReg) (v : Word) (s : State) : (s.writeS r v).mepc = s.mepc := rfl
@[simp] theorem State.writeS_mtval (r : FReg) (v : Word) (s : State) : (s.writeS r v).mtval = s.mtval := rfl
@[simp] theorem State.writeS_reservation (r : FReg) (v : Word) (s : State) : (s.writeS r v).reservation = s.reservation := rfl
@[simp] theorem State.writeS_clock (r : FReg) (v : Word) (s : State) : (s.writeS r v).clock = s.clock := rfl
@[simp] theorem State.writeS_answer (r : FReg) (v : Word) (s : State) : (s.writeS r v).answer = s.answer := rfl
@[simp] theorem State.writeS_bus (r : FReg) (v : Word) (s : State) : (s.writeS r v).bus = s.bus := rfl
@[simp] theorem State.writeS_getX (r : FReg) (v : Word) (s : State) (k : Reg) : (s.writeS r v).getX k = s.getX k := rfl
@[simp] theorem State.writeS_frm (r : FReg) (v : Word) (s : State) : (s.writeS r v).frm = s.frm := rfl
@[simp] theorem State.writeS_fflags (r : FReg) (v : Word) (s : State) : (s.writeS r v).fflags = s.fflags := rfl

/-! ### State.setFrm -/

@[simp] theorem State.setFrm_cfg (v : BitVec 3) (s : State) : (s.setFrm v).cfg = s.cfg := rfl
@[simp] theorem State.setFrm_map (v : BitVec 3) (s : State) : (s.setFrm v).map = s.map := rfl
@[simp] theorem State.setFrm_mem (v : BitVec 3) (s : State) : (s.setFrm v).mem = s.mem := rfl
@[simp] theorem State.setFrm_x (v : BitVec 3) (s : State) : (s.setFrm v).x = s.x := rfl
@[simp] theorem State.setFrm_f (v : BitVec 3) (s : State) : (s.setFrm v).f = s.f := rfl
@[simp] theorem State.setFrm_pc (v : BitVec 3) (s : State) : (s.setFrm v).pc = s.pc := rfl
@[simp] theorem State.setFrm_fcsr (v : BitVec 3) (s : State) : (s.setFrm v).fcsr = v ++ s.fflags := rfl
@[simp] theorem State.setFrm_mcause (v : BitVec 3) (s : State) : (s.setFrm v).mcause = s.mcause := rfl
@[simp] theorem State.setFrm_mepc (v : BitVec 3) (s : State) : (s.setFrm v).mepc = s.mepc := rfl
@[simp] theorem State.setFrm_mtval (v : BitVec 3) (s : State) : (s.setFrm v).mtval = s.mtval := rfl
@[simp] theorem State.setFrm_reservation (v : BitVec 3) (s : State) : (s.setFrm v).reservation = s.reservation := rfl
@[simp] theorem State.setFrm_clock (v : BitVec 3) (s : State) : (s.setFrm v).clock = s.clock := rfl
@[simp] theorem State.setFrm_answer (v : BitVec 3) (s : State) : (s.setFrm v).answer = s.answer := rfl
@[simp] theorem State.setFrm_bus (v : BitVec 3) (s : State) : (s.setFrm v).bus = s.bus := rfl
@[simp] theorem State.setFrm_getX (v : BitVec 3) (s : State) (k : Reg) : (s.setFrm v).getX k = s.getX k := rfl
@[simp] theorem State.setFrm_getF (v : BitVec 3) (s : State) (k : FReg) : (s.setFrm v).getF k = s.getF k := rfl
@[simp] theorem State.setFrm_readS (v : BitVec 3) (s : State) (k : FReg) : (s.setFrm v).readS k = s.readS k := rfl

/-! ### State.setFflags -/

@[simp] theorem State.setFflags_cfg (v : FlagSet) (s : State) : (s.setFflags v).cfg = s.cfg := rfl
@[simp] theorem State.setFflags_map (v : FlagSet) (s : State) : (s.setFflags v).map = s.map := rfl
@[simp] theorem State.setFflags_mem (v : FlagSet) (s : State) : (s.setFflags v).mem = s.mem := rfl
@[simp] theorem State.setFflags_x (v : FlagSet) (s : State) : (s.setFflags v).x = s.x := rfl
@[simp] theorem State.setFflags_f (v : FlagSet) (s : State) : (s.setFflags v).f = s.f := rfl
@[simp] theorem State.setFflags_pc (v : FlagSet) (s : State) : (s.setFflags v).pc = s.pc := rfl
@[simp] theorem State.setFflags_fcsr (v : FlagSet) (s : State) : (s.setFflags v).fcsr = s.frm ++ v := rfl
@[simp] theorem State.setFflags_mcause (v : FlagSet) (s : State) : (s.setFflags v).mcause = s.mcause := rfl
@[simp] theorem State.setFflags_mepc (v : FlagSet) (s : State) : (s.setFflags v).mepc = s.mepc := rfl
@[simp] theorem State.setFflags_mtval (v : FlagSet) (s : State) : (s.setFflags v).mtval = s.mtval := rfl
@[simp] theorem State.setFflags_reservation (v : FlagSet) (s : State) : (s.setFflags v).reservation = s.reservation := rfl
@[simp] theorem State.setFflags_clock (v : FlagSet) (s : State) : (s.setFflags v).clock = s.clock := rfl
@[simp] theorem State.setFflags_answer (v : FlagSet) (s : State) : (s.setFflags v).answer = s.answer := rfl
@[simp] theorem State.setFflags_bus (v : FlagSet) (s : State) : (s.setFflags v).bus = s.bus := rfl
@[simp] theorem State.setFflags_getX (v : FlagSet) (s : State) (k : Reg) : (s.setFflags v).getX k = s.getX k := rfl
@[simp] theorem State.setFflags_getF (v : FlagSet) (s : State) (k : FReg) : (s.setFflags v).getF k = s.getF k := rfl
@[simp] theorem State.setFflags_readS (v : FlagSet) (s : State) (k : FReg) : (s.setFflags v).readS k = s.readS k := rfl

/-! ### State.accrue -/

@[simp] theorem State.accrue_cfg (fl : FlagSet) (s : State) : (s.accrue fl).cfg = s.cfg := rfl
@[simp] theorem State.accrue_map (fl : FlagSet) (s : State) : (s.accrue fl).map = s.map := rfl
@[simp] theorem State.accrue_mem (fl : FlagSet) (s : State) : (s.accrue fl).mem = s.mem := rfl
@[simp] theorem State.accrue_x (fl : FlagSet) (s : State) : (s.accrue fl).x = s.x := rfl
@[simp] theorem State.accrue_f (fl : FlagSet) (s : State) : (s.accrue fl).f = s.f := rfl
@[simp] theorem State.accrue_pc (fl : FlagSet) (s : State) : (s.accrue fl).pc = s.pc := rfl
@[simp] theorem State.accrue_fcsr (fl : FlagSet) (s : State) : (s.accrue fl).fcsr = s.frm ++ (s.fflags ||| fl) := rfl
@[simp] theorem State.accrue_mcause (fl : FlagSet) (s : State) : (s.accrue fl).mcause = s.mcause := rfl
@[simp] theorem State.accrue_mepc (fl : FlagSet) (s : State) : (s.accrue fl).mepc = s.mepc := rfl
@[simp] theorem State.accrue_mtval (fl : FlagSet) (s : State) : (s.accrue fl).mtval = s.mtval := rfl
@[simp] theorem State.accrue_reservation (fl : FlagSet) (s : State) : (s.accrue fl).reservation = s.reservation := rfl
@[simp] theorem State.accrue_clock (fl : FlagSet) (s : State) : (s.accrue fl).clock = s.clock := rfl
@[simp] theorem State.accrue_answer (fl : FlagSet) (s : State) : (s.accrue fl).answer = s.answer := rfl
@[simp] theorem State.accrue_bus (fl : FlagSet) (s : State) : (s.accrue fl).bus = s.bus := rfl
@[simp] theorem State.accrue_getX (fl : FlagSet) (s : State) (k : Reg) : (s.accrue fl).getX k = s.getX k := rfl
@[simp] theorem State.accrue_getF (fl : FlagSet) (s : State) (k : FReg) : (s.accrue fl).getF k = s.getF k := rfl
@[simp] theorem State.accrue_readS (fl : FlagSet) (s : State) (k : FReg) : (s.accrue fl).readS k = s.readS k := rfl

/-! ### State.request -/

@[simp] theorem State.request_cfg (q : Request) (s : State) : (s.request q).cfg = s.cfg := rfl
@[simp] theorem State.request_map (q : Request) (s : State) : (s.request q).map = s.map := rfl
@[simp] theorem State.request_mem (q : Request) (s : State) : (s.request q).mem = s.mem := rfl
@[simp] theorem State.request_x (q : Request) (s : State) : (s.request q).x = s.x := rfl
@[simp] theorem State.request_f (q : Request) (s : State) : (s.request q).f = s.f := rfl
@[simp] theorem State.request_pc (q : Request) (s : State) : (s.request q).pc = s.pc := rfl
@[simp] theorem State.request_fcsr (q : Request) (s : State) : (s.request q).fcsr = s.fcsr := rfl
@[simp] theorem State.request_mcause (q : Request) (s : State) : (s.request q).mcause = s.mcause := rfl
@[simp] theorem State.request_mepc (q : Request) (s : State) : (s.request q).mepc = s.mepc := rfl
@[simp] theorem State.request_mtval (q : Request) (s : State) : (s.request q).mtval = s.mtval := rfl
@[simp] theorem State.request_reservation (q : Request) (s : State) : (s.request q).reservation = s.reservation := rfl
@[simp] theorem State.request_clock (q : Request) (s : State) : (s.request q).clock = s.clock := rfl
@[simp] theorem State.request_answer (q : Request) (s : State) : (s.request q).answer = s.answer := rfl
@[simp] theorem State.request_bus (q : Request) (s : State) : (s.request q).bus = s.bus ++ [q] := rfl
@[simp] theorem State.request_getX (q : Request) (s : State) (k : Reg) : (s.request q).getX k = s.getX k := rfl
@[simp] theorem State.request_getF (q : Request) (s : State) (k : FReg) : (s.request q).getF k = s.getF k := rfl
@[simp] theorem State.request_readS (q : Request) (s : State) (k : FReg) : (s.request q).readS k = s.readS k := rfl
@[simp] theorem State.request_frm (q : Request) (s : State) : (s.request q).frm = s.frm := rfl
@[simp] theorem State.request_fflags (q : Request) (s : State) : (s.request q).fflags = s.fflags := rfl

/-! ### State.stored -/

@[simp] theorem State.stored_cfg (n : Nat) (ea : Word) (v : BitVec (8 * n)) (s : State) : (s.stored n ea v).cfg = s.cfg := rfl
@[simp] theorem State.stored_map (n : Nat) (ea : Word) (v : BitVec (8 * n)) (s : State) : (s.stored n ea v).map = s.map := rfl
@[simp] theorem State.stored_mem (n : Nat) (ea : Word) (v : BitVec (8 * n)) (s : State) : (s.stored n ea v).mem = writeBytes n s.mem ea v := rfl
@[simp] theorem State.stored_x (n : Nat) (ea : Word) (v : BitVec (8 * n)) (s : State) : (s.stored n ea v).x = s.x := rfl
@[simp] theorem State.stored_f (n : Nat) (ea : Word) (v : BitVec (8 * n)) (s : State) : (s.stored n ea v).f = s.f := rfl
@[simp] theorem State.stored_pc (n : Nat) (ea : Word) (v : BitVec (8 * n)) (s : State) : (s.stored n ea v).pc = s.pc := rfl
@[simp] theorem State.stored_fcsr (n : Nat) (ea : Word) (v : BitVec (8 * n)) (s : State) : (s.stored n ea v).fcsr = s.fcsr := rfl
@[simp] theorem State.stored_mcause (n : Nat) (ea : Word) (v : BitVec (8 * n)) (s : State) : (s.stored n ea v).mcause = s.mcause := rfl
@[simp] theorem State.stored_mepc (n : Nat) (ea : Word) (v : BitVec (8 * n)) (s : State) : (s.stored n ea v).mepc = s.mepc := rfl
@[simp] theorem State.stored_mtval (n : Nat) (ea : Word) (v : BitVec (8 * n)) (s : State) : (s.stored n ea v).mtval = s.mtval := rfl
@[simp] theorem State.stored_reservation (n : Nat) (ea : Word) (v : BitVec (8 * n)) (s : State) : (s.stored n ea v).reservation = reservationAfterStore ea n s.reservation := rfl
@[simp] theorem State.stored_clock (n : Nat) (ea : Word) (v : BitVec (8 * n)) (s : State) : (s.stored n ea v).clock = s.clock := rfl
@[simp] theorem State.stored_answer (n : Nat) (ea : Word) (v : BitVec (8 * n)) (s : State) : (s.stored n ea v).answer = s.answer := rfl
@[simp] theorem State.stored_bus (n : Nat) (ea : Word) (v : BitVec (8 * n)) (s : State) : (s.stored n ea v).bus = s.bus := rfl
@[simp] theorem State.stored_getX (n : Nat) (ea : Word) (v : BitVec (8 * n)) (s : State) (k : Reg) : (s.stored n ea v).getX k = s.getX k := rfl
@[simp] theorem State.stored_getF (n : Nat) (ea : Word) (v : BitVec (8 * n)) (s : State) (k : FReg) : (s.stored n ea v).getF k = s.getF k := rfl
@[simp] theorem State.stored_readS (n : Nat) (ea : Word) (v : BitVec (8 * n)) (s : State) (k : FReg) : (s.stored n ea v).readS k = s.readS k := rfl
@[simp] theorem State.stored_frm (n : Nat) (ea : Word) (v : BitVec (8 * n)) (s : State) : (s.stored n ea v).frm = s.frm := rfl
@[simp] theorem State.stored_fflags (n : Nat) (ea : Word) (v : BitVec (8 * n)) (s : State) : (s.stored n ea v).fflags = s.fflags := rfl

/-! ### commitAt -/

@[simp] theorem commitAt_cfg (next : Word) (s : State) : (commitAt next s).cfg = s.cfg := rfl
@[simp] theorem commitAt_map (next : Word) (s : State) : (commitAt next s).map = s.map := rfl
@[simp] theorem commitAt_mem (next : Word) (s : State) : (commitAt next s).mem = s.mem := rfl
@[simp] theorem commitAt_x (next : Word) (s : State) : (commitAt next s).x = s.x := rfl
@[simp] theorem commitAt_f (next : Word) (s : State) : (commitAt next s).f = s.f := rfl
@[simp] theorem commitAt_pc (next : Word) (s : State) : (commitAt next s).pc = next := rfl
@[simp] theorem commitAt_fcsr (next : Word) (s : State) : (commitAt next s).fcsr = s.fcsr := rfl
@[simp] theorem commitAt_mcause (next : Word) (s : State) : (commitAt next s).mcause = s.mcause := rfl
@[simp] theorem commitAt_mepc (next : Word) (s : State) : (commitAt next s).mepc = s.mepc := rfl
@[simp] theorem commitAt_mtval (next : Word) (s : State) : (commitAt next s).mtval = s.mtval := rfl
@[simp] theorem commitAt_reservation (next : Word) (s : State) : (commitAt next s).reservation = s.reservation := rfl
@[simp] theorem commitAt_clock (next : Word) (s : State) : (commitAt next s).clock = s.clock + 1#64 := rfl
@[simp] theorem commitAt_answer (next : Word) (s : State) : (commitAt next s).answer = .ok := rfl
@[simp] theorem commitAt_bus (next : Word) (s : State) : (commitAt next s).bus = s.bus := rfl
@[simp] theorem commitAt_getX (next : Word) (s : State) (k : Reg) : (commitAt next s).getX k = s.getX k := rfl
@[simp] theorem commitAt_getF (next : Word) (s : State) (k : FReg) : (commitAt next s).getF k = s.getF k := rfl
@[simp] theorem commitAt_readS (next : Word) (s : State) (k : FReg) : (commitAt next s).readS k = s.readS k := rfl
@[simp] theorem commitAt_frm (next : Word) (s : State) : (commitAt next s).frm = s.frm := rfl
@[simp] theorem commitAt_fflags (next : Word) (s : State) : (commitAt next s).fflags = s.fflags := rfl

/-! ### retire -/

@[simp] theorem retire_cfg (ilen : Word) (s : State) : (retire ilen s).cfg = s.cfg := rfl
@[simp] theorem retire_map (ilen : Word) (s : State) : (retire ilen s).map = s.map := rfl
@[simp] theorem retire_mem (ilen : Word) (s : State) : (retire ilen s).mem = s.mem := rfl
@[simp] theorem retire_x (ilen : Word) (s : State) : (retire ilen s).x = s.x := rfl
@[simp] theorem retire_f (ilen : Word) (s : State) : (retire ilen s).f = s.f := rfl
@[simp] theorem retire_pc (ilen : Word) (s : State) : (retire ilen s).pc = s.pc + ilen := rfl
@[simp] theorem retire_fcsr (ilen : Word) (s : State) : (retire ilen s).fcsr = s.fcsr := rfl
@[simp] theorem retire_mcause (ilen : Word) (s : State) : (retire ilen s).mcause = s.mcause := rfl
@[simp] theorem retire_mepc (ilen : Word) (s : State) : (retire ilen s).mepc = s.mepc := rfl
@[simp] theorem retire_mtval (ilen : Word) (s : State) : (retire ilen s).mtval = s.mtval := rfl
@[simp] theorem retire_reservation (ilen : Word) (s : State) : (retire ilen s).reservation = s.reservation := rfl
@[simp] theorem retire_clock (ilen : Word) (s : State) : (retire ilen s).clock = s.clock + 1#64 := rfl
@[simp] theorem retire_answer (ilen : Word) (s : State) : (retire ilen s).answer = .ok := rfl
@[simp] theorem retire_bus (ilen : Word) (s : State) : (retire ilen s).bus = s.bus := rfl
@[simp] theorem retire_getX (ilen : Word) (s : State) (k : Reg) : (retire ilen s).getX k = s.getX k := rfl
@[simp] theorem retire_getF (ilen : Word) (s : State) (k : FReg) : (retire ilen s).getF k = s.getF k := rfl
@[simp] theorem retire_readS (ilen : Word) (s : State) (k : FReg) : (retire ilen s).readS k = s.readS k := rfl
@[simp] theorem retire_frm (ilen : Word) (s : State) : (retire ilen s).frm = s.frm := rfl
@[simp] theorem retire_fflags (ilen : Word) (s : State) : (retire ilen s).fflags = s.fflags := rfl

/-! ### takeTrap -/

@[simp] theorem takeTrap_cfg (t : Trap) (s : State) : (takeTrap t s).cfg = s.cfg := rfl
@[simp] theorem takeTrap_map (t : Trap) (s : State) : (takeTrap t s).map = s.map := rfl
@[simp] theorem takeTrap_mem (t : Trap) (s : State) : (takeTrap t s).mem = s.mem := rfl
@[simp] theorem takeTrap_x (t : Trap) (s : State) : (takeTrap t s).x = s.x := rfl
@[simp] theorem takeTrap_f (t : Trap) (s : State) : (takeTrap t s).f = s.f := rfl
@[simp] theorem takeTrap_pc (t : Trap) (s : State) : (takeTrap t s).pc = s.pc := rfl
@[simp] theorem takeTrap_fcsr (t : Trap) (s : State) : (takeTrap t s).fcsr = s.fcsr := rfl
@[simp] theorem takeTrap_mcause (t : Trap) (s : State) : (takeTrap t s).mcause = t.code := rfl
@[simp] theorem takeTrap_mepc (t : Trap) (s : State) : (takeTrap t s).mepc = s.pc := rfl
@[simp] theorem takeTrap_mtval (t : Trap) (s : State) : (takeTrap t s).mtval = t.value := rfl
@[simp] theorem takeTrap_reservation (t : Trap) (s : State) : (takeTrap t s).reservation = s.reservation := rfl
@[simp] theorem takeTrap_clock (t : Trap) (s : State) : (takeTrap t s).clock = s.clock := rfl
@[simp] theorem takeTrap_answer (t : Trap) (s : State) : (takeTrap t s).answer = .err t := rfl
@[simp] theorem takeTrap_bus (t : Trap) (s : State) : (takeTrap t s).bus = s.bus := rfl
@[simp] theorem takeTrap_getX (t : Trap) (s : State) (k : Reg) : (takeTrap t s).getX k = s.getX k := rfl
@[simp] theorem takeTrap_getF (t : Trap) (s : State) (k : FReg) : (takeTrap t s).getF k = s.getF k := rfl
@[simp] theorem takeTrap_readS (t : Trap) (s : State) (k : FReg) : (takeTrap t s).readS k = s.readS k := rfl
@[simp] theorem takeTrap_frm (t : Trap) (s : State) : (takeTrap t s).frm = s.frm := rfl
@[simp] theorem takeTrap_fflags (t : Trap) (s : State) : (takeTrap t s).fflags = s.fflags := rfl

/-! ### resumeAt -/

@[simp] theorem resumeAt_cfg (target : Word) (s : State) : (resumeAt target s).cfg = s.cfg := rfl
@[simp] theorem resumeAt_map (target : Word) (s : State) : (resumeAt target s).map = s.map := rfl
@[simp] theorem resumeAt_mem (target : Word) (s : State) : (resumeAt target s).mem = s.mem := rfl
@[simp] theorem resumeAt_x (target : Word) (s : State) : (resumeAt target s).x = s.x := rfl
@[simp] theorem resumeAt_f (target : Word) (s : State) : (resumeAt target s).f = s.f := rfl
@[simp] theorem resumeAt_pc (target : Word) (s : State) : (resumeAt target s).pc = target := rfl
@[simp] theorem resumeAt_fcsr (target : Word) (s : State) : (resumeAt target s).fcsr = s.fcsr := rfl
@[simp] theorem resumeAt_mcause (target : Word) (s : State) : (resumeAt target s).mcause = s.mcause := rfl
@[simp] theorem resumeAt_mepc (target : Word) (s : State) : (resumeAt target s).mepc = s.mepc := rfl
@[simp] theorem resumeAt_mtval (target : Word) (s : State) : (resumeAt target s).mtval = s.mtval := rfl
@[simp] theorem resumeAt_reservation (target : Word) (s : State) : (resumeAt target s).reservation = s.reservation := rfl
@[simp] theorem resumeAt_clock (target : Word) (s : State) : (resumeAt target s).clock = s.clock := rfl
@[simp] theorem resumeAt_answer (target : Word) (s : State) : (resumeAt target s).answer = s.answer := rfl
@[simp] theorem resumeAt_bus (target : Word) (s : State) : (resumeAt target s).bus = s.bus := rfl
@[simp] theorem resumeAt_getX (target : Word) (s : State) (k : Reg) : (resumeAt target s).getX k = s.getX k := rfl
@[simp] theorem resumeAt_getF (target : Word) (s : State) (k : FReg) : (resumeAt target s).getF k = s.getF k := rfl
@[simp] theorem resumeAt_readS (target : Word) (s : State) (k : FReg) : (resumeAt target s).readS k = s.readS k := rfl
@[simp] theorem resumeAt_frm (target : Word) (s : State) : (resumeAt target s).frm = s.frm := rfl
@[simp] theorem resumeAt_fflags (target : Word) (s : State) : (resumeAt target s).fflags = s.fflags := rfl

/-! ### Reading back -/

@[simp] theorem getX_zero (s : State) : s.getX 0 = 0#32 := rfl

/-- R22: a write of register 0 is discarded, a write of another register changes that one only. -/
theorem getX_setX (r k : Reg) (v : Word) (s : State) :
    (s.setX r v).getX k = if k = 0 then 0#32 else if k = r then v else s.getX k := by
  unfold State.getX State.setX
  by_cases hk : k = 0
  · simp [hk]
  · by_cases hr : r = 0
    · have : k ≠ r := by rw [hr]; exact hk
      simp [hk, hr]
    · by_cases h : k = r
      · subst h; simp [hk, Vector.get_eq_getElem]
      · have hv : r.val ≠ k.val := fun e => h (Fin.ext e.symm)
        simp [hk, hr, h, hv, Vector.get_eq_getElem]

theorem getF_setF (r k : FReg) (v : DWord) (s : State) :
    (s.setF r v).getF k = if k = r then v else s.getF k := by
  unfold State.getF State.setF
  by_cases h : k = r
  · subst h; simp [Vector.get_eq_getElem]
  · have hv : r.val ≠ k.val := fun e => h (Fin.ext e.symm)
    simp [h, hv, Vector.get_eq_getElem]

theorem getF_writeS (r k : FReg) (v : Word) (s : State) :
    (s.writeS r v).getF k = if k = r then box v else s.getF k :=
  getF_setF r k (box v) s

/-- The hard-wired register's slot is never written (R22). -/
theorem setX_x0 (r : Reg) (v : Word) (s : State) : (s.setX r v).x.get 0 = s.x.get 0 := by
  unfold State.setX
  by_cases hr : r = 0
  · simp [hr]
  · have hv : r.val ≠ 0 := fun e => hr (Fin.ext e)
    simp [hr, Vector.get_eq_getElem, hv]

/-- R372: the flags after `accrue`. -/
@[simp] theorem accrue_fflags (fl : FlagSet) (s : State) : (s.accrue fl).fflags = s.fflags ||| fl := by
  unfold State.fflags
  rw [State.accrue_fcsr]
  ext i hi
  simp only [BitVec.getElem_extractLsb', Nat.zero_add]
  erw [BitVec.getLsbD_append]
  simp [State.fflags, hi]

/-- R372: `frm` stays. -/
@[simp] theorem accrue_frm (fl : FlagSet) (s : State) : (s.accrue fl).frm = s.frm := by
  unfold State.frm
  rw [State.accrue_fcsr]
  ext i hi
  simp only [BitVec.getElem_extractLsb']
  erw [BitVec.getLsbD_append]
  simp [State.frm, hi]

end Sys2Proof.Machine
end

