-- ==== Sys2Proof/Laws/Ops.lean ====
section
/-!
SUPPORT. What each shared operation can do, said once: the data accesses, the rounding mode, the CSR access, jumps,
branches, fetching; and which byte a wide store leaves at every address. Later proofs cite these lemmas instead of
unfolding the operations.
-/

namespace Sys2Proof.Machine

/-! ### Bytes of a wide store -/

/-- Which byte every address holds after a store of `n` bytes at `a` (R62). -/
theorem read_writeBytes (n : Nat) {m : Memory} (hm : Memory.wf m = true) (a a' : Word) (v : BitVec (8 * n))
    (hn : n ≤ 2 ^ 32) :
    Memory.read (writeBytes n m a v) a'.toNat =
      if (a' - a).toNat < n then v.extractLsb' (8 * (a' - a).toNat) 8 else Memory.read m a'.toNat := by
  induction n generalizing m a with
  | zero => simp [writeBytes]
  | succ n ih =>
    rw [writeBytes, ih (Memory.write_wf hm a.isLt) _ _ (by omega)]
    by_cases h : a' = a
    · subst h
      have h1 : (a' - (a' + 1#32)).toNat = 2 ^ 32 - 1 := by
        rw [show a' - (a' + 1#32) = 0xffffffff#32 by ring_nf; rfl]; rfl
      have h2 : ¬ (a' - (a' + 1#32)).toNat < n := by omega
      rw [if_neg h2, Memory.read_write_same (lo := 0) hm]
      simp
    · have hs : (a' - a).toNat = (a' - (a + 1#32)).toNat + 1 := by
        have hne : a'.toNat ≠ a.toNat := fun e => h (BitVec.eq_of_toNat_eq e)
        have := a.isLt
        have := a'.isLt
        simp only [BitVec.toNat_sub, BitVec.toNat_add, BitVec.toNat_ofNat]
        omega
      have hne : a'.toNat ≠ a.toNat := fun e => h (BitVec.eq_of_toNat_eq e)
      rw [Memory.read_write_other m hne, hs]
      by_cases hlt : (a' - (a + 1#32)).toNat < n
      · rw [if_pos hlt, if_pos (by omega)]
        generalize (a' - (a + 1#32)).toNat = j at hlt
        ext i hi
        have h1 : 8 * j + i < 8 * n := by omega
        have h2 : 8 + (8 * j + i) = 8 * (j + 1) + i := by omega
        simp [h1, h2]
      · rw [if_neg hlt, if_neg (by omega)]

/-! ### Data accesses -/

theorem readThen_accepted {n : Nat} {ea : Word} {s : State} {k : BitVec (8 * n) → State → Result}
    (h : accepts s.map .load ea n = true) :
    readThen n ea s k = k (readBytes n s.mem ea) (s.request (.load ea n)) := if_pos h

theorem readThen_refused {n : Nat} {ea : Word} {s : State} {k : BitVec (8 * n) → State → Result}
    (h : accepts s.map .load ea n = false) :
    readThen n ea s k = .next (takeTrap (.loadAccessFault ea) (s.request (.load ea n))) :=
  if_neg (by simp [h])

theorem writeThen_accepted {n : Nat} {ea : Word} {v : BitVec (8 * n)} {s : State} {k : State → Result}
    (h : accepts s.map .store ea n = true) :
    writeThen n ea v s k = k ((s.request (.store ea n v.toNat)).stored n ea v) := if_pos h

theorem writeThen_refused {n : Nat} {ea : Word} {v : BitVec (8 * n)} {s : State} {k : State → Result}
    (h : accepts s.map .store ea n = false) :
    writeThen n ea v s k = .next (takeTrap (.storeAccessFault ea) (s.request (.store ea n v.toNat))) :=
  if_neg (by simp [h])

theorem loadThen_aligned {n : Nat} {ea : Word} {s : State} {k : BitVec (8 * n) → State → Result}
    (h : aligned ea n = true) : loadThen n ea s k = readThen n ea s k := if_pos h

theorem loadThen_misaligned {n : Nat} {ea : Word} {s : State} {k : BitVec (8 * n) → State → Result}
    (h : aligned ea n = false) : loadThen n ea s k = .next (takeTrap (.loadAddressMisaligned ea) s) :=
  if_neg (by simp [h])

theorem storeThen_aligned {n : Nat} {ea : Word} {v : BitVec (8 * n)} {s : State} {k : State → Result}
    (h : aligned ea n = true) : storeThen n ea v s k = writeThen n ea v s k := if_pos h

theorem storeThen_misaligned {n : Nat} {ea : Word} {v : BitVec (8 * n)} {s : State} {k : State → Result}
    (h : aligned ea n = false) : storeThen n ea v s k = .next (takeTrap (.storeAddressMisaligned ea) s) :=
  if_neg (by simp [h])

theorem atomicThen_aligned {ea raw : Word} {s : State} {k : State → Result} (h : aligned ea 4 = true) :
    atomicThen ea raw s k = k s := if_pos h

theorem atomicThen_misaligned {ea raw : Word} {s : State} {k : State → Result} (h : aligned ea 4 = false) :
    atomicThen ea raw s k = .next (takeTrap (.illegalInstruction raw) s) := if_neg (by simp [h])

/-- Everything a load's access can do. -/
theorem loadThen_cases (n : Nat) (ea : Word) (s : State) (k : BitVec (8 * n) → State → Result) :
    (aligned ea n = true ∧ accepts s.map .load ea n = true ∧
      loadThen n ea s k = k (readBytes n s.mem ea) (s.request (.load ea n))) ∨
    (aligned ea n = true ∧ accepts s.map .load ea n = false ∧
      loadThen n ea s k = .next (takeTrap (.loadAccessFault ea) (s.request (.load ea n)))) ∨
    (aligned ea n = false ∧ loadThen n ea s k = .next (takeTrap (.loadAddressMisaligned ea) s)) := by
  cases ha : aligned ea n with
  | false => exact .inr (.inr ⟨rfl, loadThen_misaligned ha⟩)
  | true =>
    rw [loadThen_aligned ha]
    cases hp : accepts s.map .load ea n with
    | false => exact .inr (.inl ⟨rfl, rfl, readThen_refused hp⟩)
    | true => exact .inl ⟨rfl, rfl, readThen_accepted hp⟩

/-- Everything a store's access can do. -/
theorem storeThen_cases (n : Nat) (ea : Word) (v : BitVec (8 * n)) (s : State) (k : State → Result) :
    (aligned ea n = true ∧ accepts s.map .store ea n = true ∧
      storeThen n ea v s k = k ((s.request (.store ea n v.toNat)).stored n ea v)) ∨
    (aligned ea n = true ∧ accepts s.map .store ea n = false ∧
      storeThen n ea v s k = .next (takeTrap (.storeAccessFault ea) (s.request (.store ea n v.toNat)))) ∨
    (aligned ea n = false ∧ storeThen n ea v s k = .next (takeTrap (.storeAddressMisaligned ea) s)) := by
  cases ha : aligned ea n with
  | false => exact .inr (.inr ⟨rfl, storeThen_misaligned ha⟩)
  | true =>
    rw [storeThen_aligned ha]
    cases hp : accepts s.map .store ea n with
    | false => exact .inr (.inl ⟨rfl, rfl, writeThen_refused hp⟩)
    | true => exact .inl ⟨rfl, rfl, writeThen_accepted hp⟩

/-! ### Rounding mode, CSR, jumps and branches -/

theorem withRm_some {rm : BitVec 3} {raw : Word} {s : State} {k : RoundingMode → Result} {m : RoundingMode}
    (h : resolveRm rm s = some m) : withRm rm raw s k = k m := by
  unfold withRm; rw [h]

theorem withRm_none {rm : BitVec 3} {raw : Word} {s : State} {k : RoundingMode → Result}
    (h : resolveRm rm s = none) : withRm rm raw s k = .next (takeTrap (.illegalInstruction raw) s) := by
  unfold withRm; rw [h]

theorem csrAccess_absent {raw : Word} {csr : BitVec 12} {writes reads : Bool} {new : Word → Word} {rd : Reg}
    {s : State} (h : csrAt s.cfg csr = none) :
    csrAccess raw csr writes reads new rd s = .next (takeTrap (.illegalInstruction raw) s) := by
  unfold csrAccess; rw [h]

theorem csrAccess_readOnly {raw : Word} {csr : BitVec 12} {reads : Bool} {new : Word → Word} {rd : Reg}
    {s : State} (h : csrReadOnly csr = true) :
    csrAccess raw csr true reads new rd s = .next (takeTrap (.illegalInstruction raw) s) := by
  unfold csrAccess
  cases csrAt s.cfg csr <;> simp [h]

theorem csrAccess_allowed {raw : Word} {csr : BitVec 12} {writes reads : Bool} {new : Word → Word} {rd : Reg}
    {s : State} {c : Csr} (hc : csrAt s.cfg csr = some c) (hw : (writes && csrReadOnly csr) = false) :
    csrAccess raw csr writes reads new rd s =
      .next (retire 4#32
        ((if writes then s.writeCsr (new (if reads then s.readCsr c else 0#32)) c else s).setX rd
          (if reads then s.readCsr c else 0#32))) := by
  unfold csrAccess
  simp [hc, hw]

theorem targetThen_aligned {t : Word} {s : State} {k : Result} (h : aligned t s.cfg.ialign = true) :
    targetThen t s k = k := if_pos h

theorem targetThen_misaligned {t : Word} {s : State} {k : Result} (h : aligned t s.cfg.ialign = false) :
    targetThen t s k = .next (takeTrap (.instructionAddressMisaligned t) s) := if_neg (by simp [h])

/-! ### Fetching -/

theorem fetchCode_misaligned {s : State} (h : aligned s.pc s.cfg.ialign = false) :
    fetchCode s = .trapped (.instructionAddressMisaligned s.pc) s := by
  unfold fetchCode; simp [h]

theorem fetchCode_refused {s : State} (h : aligned s.pc s.cfg.ialign = true)
    (hf : accepts s.map .fetch s.pc 2 = false) :
    fetchCode s = .trapped (.instructionAccessFault s.pc) (s.request (.fetch s.pc)) := by
  unfold fetchCode fetch16; simp [h, hf]

theorem fetchCode_half {s : State} (h : aligned s.pc s.cfg.ialign = true)
    (hf : accepts s.map .fetch s.pc 2 = true) (hc : isCompressed s.cfg (readBytes 2 s.mem s.pc) = true) :
    fetchCode s = .code (.half (readBytes 2 s.mem s.pc)) (s.request (.fetch s.pc)) := by
  unfold fetchCode fetch16; simp [h, hf, hc]

theorem fetchCode_high_refused {s : State} (h : aligned s.pc s.cfg.ialign = true)
    (hf : accepts s.map .fetch s.pc 2 = true) (hc : isCompressed s.cfg (readBytes 2 s.mem s.pc) = false)
    (hh : accepts s.map .fetch (s.pc + 2#32) 2 = false) :
    fetchCode s = .trapped (.instructionAccessFault (s.pc + 2#32))
      ((s.request (.fetch s.pc)).request (.fetch (s.pc + 2#32))) := by
  unfold fetchCode fetch16; simp [h, hf, hc, hh]

theorem fetchCode_word {s : State} (h : aligned s.pc s.cfg.ialign = true)
    (hf : accepts s.map .fetch s.pc 2 = true) (hc : isCompressed s.cfg (readBytes 2 s.mem s.pc) = false)
    (hh : accepts s.map .fetch (s.pc + 2#32) 2 = true) :
    fetchCode s = .code (.word (readBytes 2 s.mem (s.pc + 2#32) ++ readBytes 2 s.mem s.pc))
      ((s.request (.fetch s.pc)).request (.fetch (s.pc + 2#32))) := by
  unfold fetchCode fetch16; simp [h, hf, hc, hh]

/-- Fetching changes nothing but the log of requests, and a 16-bit code comes only with RV32C (R101). -/
theorem fetchCode_log (s : State) :
    (∃ t q, fetchCode s = .trapped t { s with bus := s.bus ++ q }) ∨
    (∃ h q, isCompressed s.cfg h = true ∧ fetchCode s = .code (.half h) { s with bus := s.bus ++ q }) ∨
    (∃ w q, fetchCode s = .code (.word w) { s with bus := s.bus ++ q }) := by
  cases ha : aligned s.pc s.cfg.ialign with
  | false => exact .inl ⟨.instructionAddressMisaligned s.pc, [], by rw [fetchCode_misaligned ha]; simp⟩
  | true =>
    cases hf : accepts s.map .fetch s.pc 2 with
    | false => exact .inl ⟨_, _, by rw [fetchCode_refused ha hf]; rfl⟩
    | true =>
      cases hc : isCompressed s.cfg (readBytes 2 s.mem s.pc) with
      | true => exact .inr (.inl ⟨_, _, hc, by rw [fetchCode_half ha hf hc]; rfl⟩)
      | false =>
        cases hh : accepts s.map .fetch (s.pc + 2#32) 2 with
        | false =>
          exact .inl ⟨.instructionAccessFault (s.pc + 2#32), [.fetch s.pc, .fetch (s.pc + 2#32)], by
            rw [fetchCode_high_refused ha hf hc hh]; simp [State.request]⟩
        | true =>
          exact .inr (.inr ⟨readBytes 2 s.mem (s.pc + 2#32) ++ readBytes 2 s.mem s.pc, [.fetch s.pc, .fetch (s.pc + 2#32)], by
            rw [fetchCode_word ha hf hc hh]; simp [State.request]⟩)

end Sys2Proof.Machine
end

