-- ==== Sys2Proof/Laws/Commits.lean ====
section
/-!
SUPPORT. For each shared shape an instruction is made of, the whole effect it commits with, or the trap it ends in: the
lemmas that statements about single instructions are proved from.
-/

namespace Sys2Proof.Machine

/-! ### Reading an effect -/

@[simp] theorem Effect.xAfter_none {s : State} {e : Effect s} (h : e.x = none) (k : Reg) : e.xAfter k = s.getX k := by
  unfold Effect.xAfter; rw [h]

@[simp] theorem Effect.fAfter_none {s : State} {e : Effect s} (h : e.f = none) (k : FReg) : e.fAfter k = s.getF k := by
  unfold Effect.fAfter; rw [h]

@[simp] theorem Effect.byteAfter_none {s : State} {e : Effect s} (h : e.store = none) (a : Word) :
    e.byteAfter a = s.byteAt a := by
  unfold Effect.byteAfter; rw [h]

theorem Effect.xAfter_some {s : State} {e : Effect s} {rd : Reg} {v : Word} (h : e.x = some (rd, v)) (k : Reg) :
    e.xAfter k = if k = 0 then 0#32 else if k = rd then v else s.getX k := by
  unfold Effect.xAfter; rw [h]

theorem Effect.fAfter_some {s : State} {e : Effect s} {rd : FReg} {v : DWord} (h : e.f = some (rd, v)) (k : FReg) :
    e.fAfter k = if k = rd then v else s.getF k := by
  unfold Effect.fAfter; rw [h]

theorem State.byteAt_congr {s t : State} (h : t.mem = s.mem) (a : Word) : t.byteAt a = s.byteAt a := by
  unfold State.byteAt; rw [h]

theorem State.getX_congr {s t : State} (h : t.x = s.x) (k : Reg) : t.getX k = s.getX k := by
  unfold State.getX; rw [h]

theorem State.getF_congr {s t : State} (h : t.f = s.f) (k : FReg) : t.getF k = s.getF k := by
  unfold State.getF; rw [h]

/-- The flags an instruction accumulates are ORed into `fcsr`, `frm` stays (R372). -/
theorem accrue_fcsrWithFlags (fl : FlagSet) (s : State) : (s.accrue fl).fcsr = fcsrWithFlags s fl := by
  have h := accrue_fflags fl s
  have h' := accrue_frm fl s
  unfold State.fflags at h
  unfold State.frm at h'
  unfold fcsrWithFlags
  ext i hi
  by_cases h5 : i < 5
  · have := congrArg (fun v : BitVec 5 => v.getLsbD i) h
    simpa [h5, hi] using this
  · have := congrArg (fun v : BitVec 3 => v.getLsbD (i - 5)) h'
    have e : 5 + (i - 5) = i := by omega
    have h3 : i - 5 < 3 := by omega
    have hf : fl.getLsbD i = false := BitVec.getLsbD_of_ge fl i (by omega)
    simpa [h3, e, hi, hf] using this

theorem fcsrWithFlags_none (s : State) : fcsrWithFlags s noFlags = s.fcsr := by
  simp [fcsrWithFlags, noFlags]

/-! ### Little-endian reads (R62, R66) -/

/-- Bit `i` of a wide read is bit `i % 8` of the byte at the address `i / 8` further (R62). -/
theorem readBytes_bit (n : Nat) (m : Memory) (a : Word) (i : Nat) (h : i < 8 * n) :
    (readBytes n m a).getLsbD i = (Memory.read m (a + BitVec.ofNat 32 (i / 8)).toNat).getLsbD (i % 8) := by
  induction n generalizing a i with
  | zero => omega
  | succ n ih =>
    rw [readBytes]
    erw [BitVec.getLsbD_append]
    by_cases hi : i < 8
    · have h0 : i / 8 = 0 := by omega
      have h1 : i % 8 = i := by omega
      simp [hi, h0, h1]
    · simp only [hi, if_false]
      rw [ih (a + 1#32) (i - 8) (by omega)]
      have e : i / 8 = (i - 8) / 8 + 1 := by omega
      have e2 : (i - 8) % 8 = i % 8 := by omega
      rw [e, e2]
      congr 2
      have : a + 1#32 + BitVec.ofNat 32 ((i - 8) / 8) = a + BitVec.ofNat 32 ((i - 8) / 8 + 1) := by
        rw [BitVec.add_assoc]; congr 1
        apply BitVec.eq_of_toNat_eq; simp; omega
      rw [this]

theorem readBytes_one (s : State) (a : Word) : readBytes 1 s.mem a = s.byteAt a := by
  ext i hi
  rw [← BitVec.getLsbD_eq_getElem, readBytes_bit 1 s.mem a i hi, ← BitVec.getLsbD_eq_getElem]
  have h0 : i / 8 = 0 := by omega
  have h1 : i % 8 = i := by omega
  simp [State.byteAt, h0, h1]

theorem readBytes_two (s : State) (a : Word) : readBytes 2 s.mem a = s.halfAt a := by
  ext i hi
  rw [← BitVec.getLsbD_eq_getElem, readBytes_bit 2 s.mem a i hi, ← BitVec.getLsbD_eq_getElem]
  unfold State.halfAt State.byteAt
  erw [BitVec.getLsbD_append]
  by_cases h : i < 8
  · have h0 : i / 8 = 0 := by omega
    have h1 : i % 8 = i := by omega
    simp [h, h0, h1]
  · have h0 : i / 8 = 1 := by omega
    have h1 : i % 8 = i - 8 := by omega
    simp [h, h0, h1]

theorem readBytes_four (s : State) (a : Word) : readBytes 4 s.mem a = s.wordAt a := by
  ext i hi
  rw [← BitVec.getLsbD_eq_getElem, readBytes_bit 4 s.mem a i hi, ← BitVec.getLsbD_eq_getElem]
  unfold State.wordAt
  rw [← readBytes_two, ← readBytes_two]
  erw [BitVec.getLsbD_append]
  by_cases h : i < 16
  · simp only [h, if_true]; rw [readBytes_bit 2 _ _ _ h]
  · simp only [h, if_false]; rw [readBytes_bit 2 _ _ _ (by omega)]
    have e : (i - 16) % 8 = i % 8 := by omega
    have e2 : i / 8 = (i - 16) / 8 + 2 := by omega
    rw [e, e2]; congr 2
    rw [BitVec.add_assoc]; congr 2
    apply BitVec.eq_of_toNat_eq; simp; omega

theorem readBytes_eight (s : State) (a : Word) : readBytes 8 s.mem a = s.doubleAt a := by
  ext i hi
  rw [← BitVec.getLsbD_eq_getElem, readBytes_bit 8 s.mem a i hi, ← BitVec.getLsbD_eq_getElem]
  unfold State.doubleAt
  rw [← readBytes_four, ← readBytes_four]
  erw [BitVec.getLsbD_append]
  by_cases h : i < 32
  · simp only [h, if_true]; rw [readBytes_bit 4 _ _ _ h]
  · simp only [h, if_false]; rw [readBytes_bit 4 _ _ _ (by omega)]
    have e : (i - 32) % 8 = i % 8 := by omega
    have e2 : i / 8 = (i - 32) / 8 + 4 := by omega
    rw [e, e2]; congr 2
    rw [BitVec.add_assoc]; congr 2
    apply BitVec.eq_of_toNat_eq; simp; omega

/-! ### Register results -/

/-- R25, R150: an integer result. -/
theorem writeX_commits (ilen : Word) (rd : Reg) (v : Word) (s : State) :
    Commits s { next := s.pc + ilen, x := some (rd, v) } (writeX ilen rd v s) :=
  ⟨_, rfl, fun k => getX_setX rd k v s, fun k => State.setX_getF rd v s k,
    fun a => State.byteAt_congr (State.setX_mem rd v s) a, by simp, by simp, rfl, by simp, by simp, by simp, by simp,
    by simp, by simp, by simp, by simp⟩

/-- R84: an instruction that only advances `pc`. -/
theorem noOperation_commits (ilen : Word) (s : State) :
    Commits s { next := s.pc + ilen } (noOperation ilen s) :=
  ⟨_, rfl, fun _ => rfl, fun _ => rfl, fun _ => rfl, rfl, rfl, rfl, rfl, rfl, rfl, rfl, rfl, by simp, rfl, rfl⟩

/-- R371, R372: a single result with flags. -/
theorem finishS_commits (rd : FReg) (r : Word × FlagSet) (s : State) :
    Commits s { next := s.pc + 4#32, f := some (rd, box r.1), fcsr := fcsrWithFlags s r.2 } (finishS rd r s) :=
  ⟨_, rfl, fun _ => rfl, fun k => getF_writeS rd k r.1 s, fun _ => rfl, rfl, rfl, rfl,
    accrue_fcsrWithFlags r.2 s, rfl, rfl, rfl, rfl, by simp, rfl, rfl⟩

/-- R372, R410: a double result with flags. -/
theorem finishD_commits (rd : FReg) (r : DWord × FlagSet) (s : State) :
    Commits s { next := s.pc + 4#32, f := some (rd, r.1), fcsr := fcsrWithFlags s r.2 } (finishD rd r s) :=
  ⟨_, rfl, fun _ => rfl, fun k => getF_setF rd k r.1 s, fun _ => rfl, rfl, rfl, rfl,
    accrue_fcsrWithFlags r.2 s, rfl, rfl, rfl, rfl, by simp, rfl, rfl⟩

/-- R371, R372: an integer result with flags. -/
theorem finishX_commits (rd : Reg) (r : Word × FlagSet) (s : State) :
    Commits s { next := s.pc + 4#32, x := some (rd, r.1), fcsr := fcsrWithFlags s r.2 } (finishX rd r s) :=
  ⟨_, rfl, fun k => getX_setX rd k r.1 s, fun k => State.setX_getF rd r.1 s k,
    fun a => State.byteAt_congr (State.setX_mem rd r.1 s) a, by simp, by simp, rfl,
    (accrue_fcsrWithFlags r.2 (s.setX rd r.1)).trans (by simp [fcsrWithFlags]), by simp, by simp, by simp,
    by simp, by simp, by simp, by simp⟩

/-! ### Loads and stores (R221) -/

theorem loadX_commits {ilen : Word} {n : Nat} {extend : BitVec (8 * n) → Word} {rd : Reg} {ea : Word} {s : State}
    (ha : aligned ea n = true) (hp : accepts s.map .load ea n = true) :
    Commits s { next := s.pc + ilen, x := some (rd, extend (readBytes n s.mem ea)), requests := [.load ea n] }
      (loadX ilen n extend rd ea s) := by
  unfold loadX
  rw [loadThen_aligned ha, readThen_accepted hp]
  exact ⟨_, rfl, fun k => getX_setX rd k _ (s.request (.load ea n)), fun k => State.setX_getF rd _ (s.request (.load ea n)) k,
    fun a => State.byteAt_congr (State.setX_mem rd _ (s.request (.load ea n))) a, by simp, by simp, rfl, by simp, by simp,
    by simp, by simp, by simp, by simp, by simp, by simp⟩

theorem loadS_commits {ilen : Word} {rd : FReg} {ea : Word} {s : State}
    (ha : aligned ea 4 = true) (hp : accepts s.map .load ea 4 = true) :
    Commits s { next := s.pc + ilen, f := some (rd, box (readBytes 4 s.mem ea)), requests := [.load ea 4] }
      (loadS ilen rd ea s) := by
  unfold loadS
  rw [loadThen_aligned ha, readThen_accepted hp]
  exact ⟨_, rfl, fun _ => rfl, fun k => getF_writeS rd k _ (s.request (.load ea 4)), fun _ => rfl, rfl, rfl, rfl, rfl,
    rfl, rfl, rfl, rfl, rfl, rfl, rfl⟩

theorem loadD_commits {ilen : Word} {rd : FReg} {ea : Word} {s : State}
    (ha : aligned ea 8 = true) (hp : accepts s.map .load ea 8 = true) :
    Commits s { next := s.pc + ilen, f := some (rd, readBytes 8 s.mem ea), requests := [.load ea 8] }
      (loadD ilen rd ea s) := by
  unfold loadD
  rw [loadThen_aligned ha, readThen_accepted hp]
  exact ⟨_, rfl, fun _ => rfl, fun k => getF_setF rd k _ (s.request (.load ea 8)), fun _ => rfl, rfl, rfl, rfl, rfl,
    rfl, rfl, rfl, rfl, rfl, rfl, rfl⟩

/-- The bytes after an accepted store are those of the effect (R62). -/
theorem byteAt_writeBytes {n : Nat} {ea : Word} {v : BitVec (8 * n)} {m : Memory} (hm : Memory.wf m = true)
    (hn : n ≤ 8) (a : Word) :
    Memory.read (writeBytes n m ea v) a.toNat =
      if (a - ea).toNat < n then BitVec.ofNat 8 (v.toNat >>> (8 * (a - ea).toNat)) else Memory.read m a.toNat := by
  rw [read_writeBytes n hm ea a v (by omega)]
  split <;> rfl

theorem storeBytes_commits {ilen : Word} {n : Nat} {ea : Word} {v : BitVec (8 * n)} {s : State}
    (hm : Memory.wf s.mem = true) (hn : n ≤ 8) (ha : aligned ea n = true) (hp : accepts s.map .store ea n = true) :
    Commits s
      { next := s.pc + ilen, store := some ⟨ea, n, v.toNat⟩, reservation := reservationAfterStore ea n s.reservation,
        requests := [.store ea n v.toNat] }
      (storeBytes ilen n ea v s) := by
  unfold storeBytes
  rw [storeThen_aligned ha, writeThen_accepted hp]
  exact ⟨_, rfl, fun _ => rfl, fun _ => rfl, fun a => byteAt_writeBytes hm hn a, rfl, rfl, rfl, rfl, rfl,
    rfl, rfl, rfl, rfl, rfl, rfl⟩

/-! ### Jumps and branches (R200, R201) -/

theorem jumpTo_commits {ilen : Word} {rd : Reg} {t : Word} {s : State} (h : aligned t s.cfg.ialign = true) :
    Commits s { next := t, x := some (rd, s.pc + ilen) } (jumpTo ilen rd t s) := by
  unfold jumpTo
  rw [targetThen_aligned h]
  exact ⟨_, rfl, fun k => getX_setX rd k _ s, fun k => State.setX_getF rd _ s k,
    fun a => State.byteAt_congr (State.setX_mem rd _ s) a, by simp, by simp, rfl, by simp, by simp, by simp, by simp,
    by simp, by simp, by simp, by simp⟩

theorem jumpTo_misaligned {ilen : Word} {rd : Reg} {t : Word} {s : State} (h : aligned t s.cfg.ialign = false) :
    jumpTo ilen rd t s = .next (takeTrap (.instructionAddressMisaligned t) s) :=
  targetThen_misaligned h

theorem branchIf_notTaken (ilen offset : Word) (s : State) :
    Commits s { next := s.pc + ilen } (branchIf ilen false offset s) :=
  noOperation_commits ilen s

theorem branchIf_taken {ilen offset : Word} {s : State} (h : aligned (s.pc + offset) s.cfg.ialign = true) :
    Commits s { next := s.pc + offset } (branchIf ilen true offset s) := by
  unfold branchIf
  rw [if_pos rfl, targetThen_aligned h]
  exact ⟨_, rfl, fun _ => rfl, fun _ => rfl, fun _ => rfl, rfl, rfl, rfl, rfl, rfl, rfl, rfl, rfl, by simp, rfl, rfl⟩

theorem branchIf_misaligned {ilen offset : Word} {s : State} (h : aligned (s.pc + offset) s.cfg.ialign = false) :
    branchIf ilen true offset s = .next (takeTrap (.instructionAddressMisaligned (s.pc + offset)) s) := by
  unfold branchIf
  rw [if_pos rfl, targetThen_misaligned h]

/-! ### Atomic instructions (R243) -/

theorem amo_commits {raw : Word} {op : Word → Word → Word} {rd rs1 rs2 : Reg} {s : State}
    (hm : Memory.wf s.mem = true) (ha : aligned (s.getX rs1) 4 = true)
    (hl : accepts s.map .load (s.getX rs1) 4 = true) (hs : accepts s.map .store (s.getX rs1) 4 = true) :
    Commits s
      { next := s.pc + 4#32, x := some (rd, readBytes 4 s.mem (s.getX rs1)),
        store := some ⟨s.getX rs1, 4, (op (readBytes 4 s.mem (s.getX rs1)) (s.getX rs2)).toNat⟩,
        reservation := reservationAfterStore (s.getX rs1) 4 s.reservation,
        requests := [.load (s.getX rs1) 4,
          .store (s.getX rs1) 4 (op (readBytes 4 s.mem (s.getX rs1)) (s.getX rs2)).toNat] }
      (amo raw op rd rs1 rs2 s) := by
  unfold amo
  rw [atomicThen_aligned ha, readThen_accepted hl]
  simp only [State.request_getX]
  rw [writeThen_accepted (s := s.request (.load (s.getX rs1) 4)) hs]
  generalize hv : op (readBytes 4 s.mem (s.getX rs1)) (s.getX rs2) = v
  generalize hu : (((s.request (.load (s.getX rs1) 4)).request
    (.store (s.getX rs1) 4 v.toNat)).stored 4 (s.getX rs1) v) = u
  refine ⟨_, rfl, fun k => ?_, fun k => ?_, fun a => ?_, ?_, ?_, rfl, ?_, ?_, ?_, ?_, ?_, ?_, ?_, ?_⟩
  · have h : ∀ k, u.getX k = s.getX k := fun k => by rw [← hu]; rfl
    have e := getX_setX rd k (readBytes 4 s.mem (s.getX rs1)) u
    rw [h] at e
    exact e
  · exact (State.setX_getF rd _ u k).trans (by rw [← hu]; rfl)
  · refine (State.byteAt_congr (State.setX_mem rd _ u) a).trans ?_
    rw [← hu]
    exact byteAt_writeBytes hm (by omega) a
  all_goals (simp; try (rw [← hu]; rfl))
  · rw [← hu]; simp

/-! ### The trapped outcomes -/

/-- Taking a trap after some requests is the trapped outcome (R503, R504). -/
theorem trapped_eq (s : State) (tr : Trap) : (.next (takeTrap tr s) : Result) = Trapped s tr [] := by
  simp [takeTrap, Trapped]

/-! ### The outcomes of the families, from the shared operations -/

theorem jumps_of (s : State) (ilen : Word) (rd : Reg) (t : Word) : Jumps s ilen rd t (jumpTo ilen rd t s) :=
  ⟨fun h => jumpTo_commits h, fun h => (jumpTo_misaligned h).trans (trapped_eq _ _)⟩

theorem branches_of {s : State} {ilen : Word} {c : Prop} {b : Bool} {o : Word} (h : c ↔ b = true) :
    Branches s ilen c (s.pc + o) (branchIf ilen b o s) := by
  cases b with
  | true => exact ⟨fun hc => absurd (h.2 rfl) hc, fun _ ha => branchIf_taken ha,
      fun _ ha => (branchIf_misaligned ha).trans (trapped_eq _ _)⟩
  | false => exact ⟨fun _ => branchIf_notTaken _ _ _, fun hc => absurd (h.1 hc) (by decide), fun hc => absurd (h.1 hc) (by decide)⟩

theorem loads_x {s : State} {ilen : Word} {n : Nat} {extend : BitVec (8 * n) → Word} {rd : Reg} {ea v : Word}
    (h : extend (readBytes n s.mem ea) = v) :
    Loads s n ea { next := s.pc + ilen, x := some (rd, v) } (loadX ilen n extend rd ea s) := by
  subst h
  refine ⟨fun ha hp => loadX_commits ha hp, fun ha hp => ?_, fun ha => ?_⟩
  · unfold loadX; rw [loadThen_aligned ha, readThen_refused hp]; rfl
  · unfold loadX; rw [loadThen_misaligned ha]; exact trapped_eq _ _

theorem loads_s {s : State} {ilen : Word} {rd : FReg} {ea : Word} {v : DWord}
    (h : box (readBytes 4 s.mem ea) = v) :
    Loads s 4 ea { next := s.pc + ilen, f := some (rd, v) } (loadS ilen rd ea s) := by
  subst h
  refine ⟨fun ha hp => loadS_commits ha hp, fun ha hp => ?_, fun ha => ?_⟩
  · unfold loadS; rw [loadThen_aligned ha, readThen_refused hp]; rfl
  · unfold loadS; rw [loadThen_misaligned ha]; exact trapped_eq _ _

theorem loads_d {s : State} {ilen : Word} {rd : FReg} {ea : Word} {v : DWord}
    (h : readBytes 8 s.mem ea = v) :
    Loads s 8 ea { next := s.pc + ilen, f := some (rd, v) } (loadD ilen rd ea s) := by
  subst h
  refine ⟨fun ha hp => loadD_commits ha hp, fun ha hp => ?_, fun ha => ?_⟩
  · unfold loadD; rw [loadThen_aligned ha, readThen_refused hp]; rfl
  · unfold loadD; rw [loadThen_misaligned ha]; exact trapped_eq _ _

theorem stores_of {s : State} {ilen : Word} {n : Nat} {ea : Word} {v : BitVec (8 * n)} {k : Nat}
    (hm : Memory.wf s.mem = true) (hn : n ≤ 8) (h : v.toNat = k % 2 ^ (8 * n)) :
    Stores s ilen n ea k (storeBytes ilen n ea v s) := by
  unfold Stores; rw [← h]
  refine ⟨fun ha hp => storeBytes_commits hm hn ha hp, fun ha hp => ?_, fun ha => ?_⟩
  · unfold storeBytes; rw [storeThen_aligned ha, writeThen_refused hp]; rfl
  · unfold storeBytes; rw [storeThen_misaligned ha]; exact trapped_eq _ _

theorem amo_of {s : State} {raw : Word} {op : Word → Word → Word} {rd rs1 rs2 : Reg} {new : Word}
    (hm : Memory.wf s.mem = true) (ha : aligned (s.getX rs1) 4 = true) (h : op (s.wordAt (s.getX rs1)) (s.getX rs2) = new) :
    Amo s rd rs1 new (amo raw op rd rs1 rs2 s) := by
  subst h
  refine ⟨fun hl hs => ?_, fun hl => ?_, fun hl hs => ?_⟩
  · have := amo_commits (raw := raw) (op := op) (rd := rd) (rs2 := rs2) hm ha hl hs
    rw [readBytes_four] at this; exact this
  · unfold amo; rw [atomicThen_aligned ha, readThen_refused hl]; rfl
  · unfold amo; rw [atomicThen_aligned ha, readThen_accepted hl]
    simp only [State.request_getX]
    rw [writeThen_refused (s := s.request _) hs, readBytes_four]
    simp [Trapped, takeTrap, State.request]

end Sys2Proof.Machine
end

