-- ==== Sys2Proof/Laws/Encoding.lean ====
section
/-!
SUPPORT. The small laws of fields in a word (placing, extracting, masking), and of the opcode table: no two rows
accept one word, so the row that accepts a word is the row decoding selects.
-/

namespace Sys2Proof

/-! ### Fields -/

theorem getLsbD_place {k n lo : Nat} (v : BitVec k) (j : Nat) :
    (place n lo v).getLsbD j = (decide (j < n) && decide (lo ≤ j) && v.getLsbD (j - lo)) := by
  unfold place
  by_cases h : j < n <;> by_cases h' : j < lo
  · simp [h, h', Nat.not_le.2 h']
  · simp [h, h', Nat.not_lt.1 h']
  · simp [h]
  · simp [h]

/-- A field placed at `lo` is read back there. -/
theorem extract_place_same {k n lo : Nat} (h : lo + k ≤ n) (v : BitVec k) :
    (place n lo v).extractLsb' lo k = v := by
  ext i hi
  have h1 : lo + i < n := by omega
  rw [BitVec.getElem_extractLsb', getLsbD_place]
  simp [h1, hi]

/-- A field placed above a range leaves it 0. -/
theorem extract_place_below {k n lo a len : Nat} (h : a + len ≤ lo) (v : BitVec k) :
    (place n lo v).extractLsb' a len = 0#len := by
  ext i hi
  have h1 : ¬ lo ≤ a + i := by omega
  simp [getLsbD_place, h1]

/-- A field placed below a range leaves it 0. -/
theorem extract_place_above {k n lo a len : Nat} (h : lo + k ≤ a) (v : BitVec k) :
    (place n lo v).extractLsb' a len = 0#len := by
  ext i hi
  have h1 : v.getLsbD (a + i - lo) = false := BitVec.getLsbD_of_ge _ _ (by omega)
  simp [getLsbD_place, h1]

theorem extract_or {n : Nat} (x y : BitVec n) (a len : Nat) :
    (x ||| y).extractLsb' a len = x.extractLsb' a len ||| y.extractLsb' a len := by
  ext i hi
  simp

/-- A field placed where a mask has no bit is invisible to the mask. -/
theorem place_and_mask {k n lo : Nat} {mask : BitVec n} (v : BitVec k)
    (h : place n lo (BitVec.allOnes k) &&& mask = 0#n) : place n lo v &&& mask = 0#n := by
  ext i hi
  have hm : ((place n lo (BitVec.allOnes k)) &&& mask).getLsbD i = false := by rw [h]; simp
  rw [BitVec.getLsbD_and, getLsbD_place] at hm
  rw [BitVec.getElem_and, ← BitVec.getLsbD_eq_getElem, ← BitVec.getLsbD_eq_getElem, getLsbD_place]
  by_cases hk : i - lo < k
  · simp only [BitVec.getLsbD_allOnes, hk, decide_true, Bool.and_true] at hm
    simp only [BitVec.getElem_zero]
    cases hd : (decide (i < n) && decide (lo ≤ i)) <;> simp_all
  · simp [BitVec.getLsbD_of_ge v (i - lo) (by omega)]

@[simp] theorem regField_eq {n : Nat} (w : BitVec n) (lo : Nat) (r : Fin 32)
    (h : w.extractLsb' lo 5 = regBits r) : regField w lo = r := by
  unfold regField; rw [h]; rfl

@[simp] theorem smallRegField_eq {n : Nat} (w : BitVec n) (lo : Nat) (r : Fin 8)
    (h : w.extractLsb' lo 3 = smallRegBits r) : smallRegField w lo = r := by
  unfold smallRegField; rw [h]; rfl

/-! ### The opcode table -/

/-- Two rows differ in a bit both fix, or a `require` entry of one forbids what the other fixes. -/
def Row.excludes {n : Nat} (r r' : Row n) : Bool :=
  (r.mask &&& r'.mask &&& (r.value ^^^ r'.value) != 0#n)
    || r.require.any (fun c => c.1 &&& ~~~r'.mask == 0#n && r'.value &&& c.1 == c.2)
    || r'.require.any (fun c => c.1 &&& ~~~r.mask == 0#n && r.value &&& c.1 == c.2)

/-- Every row of the list excludes every later one. -/
def allExclude {n : Nat} : List (Row n) → Bool
  | [] => true
  | r :: rest => rest.all (fun r' => r.excludes r') && allExclude rest

theorem and_of_mask {n : Nat} {w m q v : BitVec n} (hw : w &&& m = v) (hq : q &&& ~~~m = 0#n) : w &&& q = v &&& q := by
  subst hw
  ext i hi
  have h : q[i] = true → m[i] = true := by
    have := congrArg (fun x : BitVec n => x.getLsbD i) hq
    simpa [hi] using this
  simp only [BitVec.getElem_and]
  cases hb : q[i]
  · simp
  · simp [h hb]

theorem Row.accepts_iff {n : Nat} (r : Row n) (w : BitVec n) :
    r.accepts w = true ↔ w &&& r.mask = r.value ∧ ∀ c ∈ r.require, w &&& c.1 ≠ c.2 := by
  simp [Row.accepts]

/-- Rows that exclude each other accept no word in common. -/
theorem Row.excludes_sound {n : Nat} {r r' : Row n} {w : BitVec n} (h : r.excludes r' = true)
    (hr : r.accepts w = true) : r'.accepts w = false := by
  by_contra hr'
  rw [Bool.not_eq_false, Row.accepts_iff] at hr'
  rw [Row.accepts_iff] at hr
  unfold Row.excludes at h
  simp only [Bool.or_eq_true, List.any_eq_true, Bool.and_eq_true, beq_iff_eq, bne_iff_ne] at h
  obtain (h | ⟨c, hc, h1, h2⟩) | ⟨c, hc, h1, h2⟩ := h
  · apply h
    rw [← hr.1, ← hr'.1]
    ext i hi
    simp only [BitVec.getElem_and, BitVec.getElem_xor, BitVec.getElem_zero]
    cases w[i] <;> cases r.mask[i] <;> cases r'.mask[i] <;> rfl
  · exact hr.2 c hc ((and_of_mask hr'.1 h1).trans h2)
  · exact hr'.2 c hc ((and_of_mask hr.1 h1).trans h2)

/-- In a list whose rows exclude each other, the row that accepts a word is the one found. -/
theorem find_of_accepts {n : Nat} {rows : List (Row n)} {r : Row n} {w : BitVec n} (hx : allExclude rows = true)
    (hm : r ∈ rows) (ha : r.accepts w = true) : rows.find? (fun r => r.accepts w) = some r := by
  induction rows with
  | nil => simp at hm
  | cons q rest ih =>
    simp only [allExclude, Bool.and_eq_true, List.all_eq_true] at hx
    rcases List.mem_cons.1 hm with rfl | hm
    · simp [ha]
    · have hq : q.accepts w = false := by
        by_contra hq
        rw [Bool.not_eq_false] at hq
        have := Row.excludes_sound (hx.1 r hm) hq
        rw [this] at ha
        exact absurd ha (by decide)
      rw [List.find?_cons, hq]
      exact ih hx.2 hm

theorem rows32_exclude : allExclude rows32 = true := by decide +kernel

theorem rows16_exclude : allExclude rows16 = true := by decide +kernel

/-- Decoding a word that a row of the 32-bit table accepts. -/
theorem selectRow_word {r : Row 32} {w : Word} (hm : r ∈ rows32) (ha : r.accepts w = true) :
    selectRow (.word w) = some (r.cond, r.build w) := by
  unfold selectRow
  simp only [find_of_accepts rows32_exclude hm ha, Option.map_some]

/-- Decoding a halfword that a row of the 16-bit table accepts. -/
theorem selectRow_half {r : Row 16} {h : Half} (hm : r ∈ rows16) (ha : r.accepts h = true) :
    selectRow (.half h) = some (r.cond, r.build h) := by
  unfold selectRow
  simp only [find_of_accepts rows16_exclude hm ha, Option.map_some]

/-- Decoding from the selected row. -/
theorem decode_of_selectRow {cfg : Config} {c : Code} {k : When} {i : Instr} (h : selectRow c = some (k, i)) :
    decode cfg c = if cfg.provides k then .ok i else .error (.extensionOff c.raw) := by
  unfold decode; rw [h]

end Sys2Proof
end

