-- ==== Sys2Proof/Laws/PerInstr.lean ====
section
/-!
SUPPORT. Statements for all instructions, one lemma per constructor. `LengthTold`: the two low bits of an encoded
instruction tell its length (30_encoding.md R100).
-/

namespace Sys2Proof

/-! ### No field reaches the two low bits -/

/-- A field at bit 2 or above leaves the two low bits 0. -/
theorem place_low {k n lo : Nat} (v : BitVec k) (h : 2 ≤ lo) : (place n lo v).extractLsb' 0 2 = 0#2 :=
  extract_place_below h v

/-- A field that does not reach the two low bits leaves them. -/
theorem low_or {n : Nat} {x y : BitVec n} {k : BitVec 2} (hx : x.extractLsb' 0 2 = k) (hy : y.extractLsb' 0 2 = 0#2) :
    (x ||| y).extractLsb' 0 2 = k := by
  rw [extract_or, hx, hy, BitVec.or_zero]

theorem putRd_low (r : Fin 32) : (putRd r).extractLsb' 0 2 = 0#2 := place_low _ (by decide)
theorem putRs1_low (r : Fin 32) : (putRs1 r).extractLsb' 0 2 = 0#2 := place_low _ (by decide)
theorem putRs2_low (r : Fin 32) : (putRs2 r).extractLsb' 0 2 = 0#2 := place_low _ (by decide)
theorem putRs3_low (r : Fin 32) : (putRs3 r).extractLsb' 0 2 = 0#2 := place_low _ (by decide)
theorem putRm_low (rm : BitVec 3) : (putRm rm).extractLsb' 0 2 = 0#2 := place_low _ (by decide)
theorem putShamt_low (v : BitVec 5) : (putShamt v).extractLsb' 0 2 = 0#2 := place_low _ (by decide)
theorem putCsr_low (v : BitVec 12) : (putCsr v).extractLsb' 0 2 = 0#2 := place_low _ (by decide)
theorem putUimm_low (v : BitVec 5) : (putUimm v).extractLsb' 0 2 = 0#2 := place_low _ (by decide)
theorem putAq_low (b : Bool) : (putAq b).extractLsb' 0 2 = 0#2 := place_low _ (by decide)
theorem putRl_low (b : Bool) : (putRl b).extractLsb' 0 2 = 0#2 := place_low _ (by decide)
theorem putFm_low (v : BitVec 4) : (putFm v).extractLsb' 0 2 = 0#2 := place_low _ (by decide)
theorem putPred_low (v : BitVec 4) : (putPred v).extractLsb' 0 2 = 0#2 := place_low _ (by decide)
theorem putSucc_low (v : BitVec 4) : (putSucc v).extractLsb' 0 2 = 0#2 := place_low _ (by decide)
theorem putImmI_low (v : BitVec 12) : (putImmI v).extractLsb' 0 2 = 0#2 := place_low _ (by decide)
theorem putImmS_low (v : BitVec 12) : (putImmS v).extractLsb' 0 2 = 0#2 :=
  low_or (place_low _ (by decide)) (place_low _ (by decide))
theorem putImmB_low (v : BitVec 13) : (putImmB v).extractLsb' 0 2 = 0#2 :=
  low_or (low_or (low_or (place_low _ (by decide)) (place_low _ (by decide))) (place_low _ (by decide))) (place_low _ (by decide))
theorem putImmU_low (v : BitVec 20) : (putImmU v).extractLsb' 0 2 = 0#2 := place_low _ (by decide)
theorem putImmJ_low (v : BitVec 21) : (putImmJ v).extractLsb' 0 2 = 0#2 :=
  low_or (low_or (low_or (place_low _ (by decide)) (place_low _ (by decide))) (place_low _ (by decide))) (place_low _ (by decide))
theorem putLow3_low (r : Fin 8) : (putLow3 r).extractLsb' 0 2 = 0#2 := place_low _ (by decide)
theorem putMid3_low (r : Fin 8) : (putMid3 r).extractLsb' 0 2 = 0#2 := place_low _ (by decide)
theorem putMid5_low (r : Fin 32) : (putMid5 r).extractLsb' 0 2 = 0#2 := place_low _ (by decide)
theorem putLow5_low (r : Fin 32) : (putLow5 r).extractLsb' 0 2 = 0#2 := place_low _ (by decide)
theorem putCAddi4spn_low (v : BitVec 10) : (putCAddi4spn v).extractLsb' 0 2 = 0#2 :=
  low_or (low_or (low_or (place_low _ (by decide)) (place_low _ (by decide))) (place_low _ (by decide))) (place_low _ (by decide))
theorem putCWord_low (v : BitVec 7) : (putCWord v).extractLsb' 0 2 = 0#2 :=
  low_or (low_or (place_low _ (by decide)) (place_low _ (by decide))) (place_low _ (by decide))
theorem putCDouble_low (v : BitVec 8) : (putCDouble v).extractLsb' 0 2 = 0#2 :=
  low_or (place_low _ (by decide)) (place_low _ (by decide))
theorem putCImm6_low (v : BitVec 6) : (putCImm6 v).extractLsb' 0 2 = 0#2 :=
  low_or (place_low _ (by decide)) (place_low _ (by decide))
theorem putCShamt_low (v : BitVec 5) : (putCShamt v).extractLsb' 0 2 = 0#2 := place_low _ (by decide)
theorem putCLui_low (v : BitVec 18) : (putCLui v).extractLsb' 0 2 = 0#2 :=
  low_or (place_low _ (by decide)) (place_low _ (by decide))
theorem putCAddi16sp_low (v : BitVec 10) : (putCAddi16sp v).extractLsb' 0 2 = 0#2 :=
  low_or (low_or (low_or (low_or (place_low _ (by decide)) (place_low _ (by decide))) (place_low _ (by decide))) (place_low _ (by decide))) (place_low _ (by decide))
theorem putCWordSp_low (v : BitVec 8) : (putCWordSp v).extractLsb' 0 2 = 0#2 :=
  low_or (low_or (place_low _ (by decide)) (place_low _ (by decide))) (place_low _ (by decide))
theorem putCDoubleSp_low (v : BitVec 9) : (putCDoubleSp v).extractLsb' 0 2 = 0#2 :=
  low_or (low_or (place_low _ (by decide)) (place_low _ (by decide))) (place_low _ (by decide))
theorem putCStoreWordSp_low (v : BitVec 8) : (putCStoreWordSp v).extractLsb' 0 2 = 0#2 :=
  low_or (place_low _ (by decide)) (place_low _ (by decide))
theorem putCStoreDoubleSp_low (v : BitVec 9) : (putCStoreDoubleSp v).extractLsb' 0 2 = 0#2 :=
  low_or (place_low _ (by decide)) (place_low _ (by decide))
theorem putCJump_low (v : BitVec 12) : (putCJump v).extractLsb' 0 2 = 0#2 :=
  low_or (low_or (low_or (low_or (low_or (low_or (low_or (place_low _ (by decide)) (place_low _ (by decide))) (place_low _ (by decide))) (place_low _ (by decide))) (place_low _ (by decide))) (place_low _ (by decide))) (place_low _ (by decide))) (place_low _ (by decide))
theorem putCBranch_low (v : BitVec 9) : (putCBranch v).extractLsb' 0 2 = 0#2 :=
  low_or (low_or (low_or (low_or (place_low _ (by decide)) (place_low _ (by decide))) (place_low _ (by decide))) (place_low _ (by decide))) (place_low _ (by decide))

theorem not_long_of_low_0 {h : Half} (hl : h.extractLsb' 0 2 = 0b00#2) : h.extractLsb' 0 2 ≠ 0b11#2 := by
  rw [hl]; decide

theorem not_long_of_low_1 {h : Half} (hl : h.extractLsb' 0 2 = 0b01#2) : h.extractLsb' 0 2 ≠ 0b11#2 := by
  rw [hl]; decide

theorem not_long_of_low_2 {h : Half} (hl : h.extractLsb' 0 2 = 0b10#2) : h.extractLsb' 0 2 ≠ 0b11#2 := by
  rw [hl]; decide

/-- The two low bits tell the length: `11` for a 32-bit word, anything else for a 16-bit halfword (R100). -/
def Code.lengthTold : Code → Prop
  | .half h => h.extractLsb' 0 2 ≠ 0b11#2
  | .word w => w.extractLsb' 0 2 = 0b11#2

namespace Laws.LengthTold

/-- The encoded instruction's two low bits tell its length. -/
def Statement (i : Instr) : Prop := (encode i).lengthTold

theorem lui (rd : Reg) (imm20 : BitVec 20) : Statement (.lui rd imm20) :=
  low_or (low_or rfl (putRd_low rd)) (putImmU_low imm20)
theorem auipc (rd : Reg) (imm20 : BitVec 20) : Statement (.auipc rd imm20) :=
  low_or (low_or rfl (putRd_low rd)) (putImmU_low imm20)
theorem addi (rd : Reg) (rs1 : Reg) (imm : BitVec 12) : Statement (.addi rd rs1 imm) :=
  low_or (low_or (low_or rfl (putRd_low rd)) (putRs1_low rs1)) (putImmI_low imm)
theorem slti (rd : Reg) (rs1 : Reg) (imm : BitVec 12) : Statement (.slti rd rs1 imm) :=
  low_or (low_or (low_or rfl (putRd_low rd)) (putRs1_low rs1)) (putImmI_low imm)
theorem sltiu (rd : Reg) (rs1 : Reg) (imm : BitVec 12) : Statement (.sltiu rd rs1 imm) :=
  low_or (low_or (low_or rfl (putRd_low rd)) (putRs1_low rs1)) (putImmI_low imm)
theorem xori (rd : Reg) (rs1 : Reg) (imm : BitVec 12) : Statement (.xori rd rs1 imm) :=
  low_or (low_or (low_or rfl (putRd_low rd)) (putRs1_low rs1)) (putImmI_low imm)
theorem ori (rd : Reg) (rs1 : Reg) (imm : BitVec 12) : Statement (.ori rd rs1 imm) :=
  low_or (low_or (low_or rfl (putRd_low rd)) (putRs1_low rs1)) (putImmI_low imm)
theorem andi (rd : Reg) (rs1 : Reg) (imm : BitVec 12) : Statement (.andi rd rs1 imm) :=
  low_or (low_or (low_or rfl (putRd_low rd)) (putRs1_low rs1)) (putImmI_low imm)
theorem slli (rd : Reg) (rs1 : Reg) (shamt : BitVec 5) : Statement (.slli rd rs1 shamt) :=
  low_or (low_or (low_or rfl (putRd_low rd)) (putRs1_low rs1)) (putShamt_low shamt)
theorem srli (rd : Reg) (rs1 : Reg) (shamt : BitVec 5) : Statement (.srli rd rs1 shamt) :=
  low_or (low_or (low_or rfl (putRd_low rd)) (putRs1_low rs1)) (putShamt_low shamt)
theorem srai (rd : Reg) (rs1 : Reg) (shamt : BitVec 5) : Statement (.srai rd rs1 shamt) :=
  low_or (low_or (low_or rfl (putRd_low rd)) (putRs1_low rs1)) (putShamt_low shamt)
theorem add (rd : Reg) (rs1 : Reg) (rs2 : Reg) : Statement (.add rd rs1 rs2) :=
  low_or (low_or (low_or rfl (putRd_low rd)) (putRs1_low rs1)) (putRs2_low rs2)
theorem sub (rd : Reg) (rs1 : Reg) (rs2 : Reg) : Statement (.sub rd rs1 rs2) :=
  low_or (low_or (low_or rfl (putRd_low rd)) (putRs1_low rs1)) (putRs2_low rs2)
theorem sll (rd : Reg) (rs1 : Reg) (rs2 : Reg) : Statement (.sll rd rs1 rs2) :=
  low_or (low_or (low_or rfl (putRd_low rd)) (putRs1_low rs1)) (putRs2_low rs2)
theorem slt (rd : Reg) (rs1 : Reg) (rs2 : Reg) : Statement (.slt rd rs1 rs2) :=
  low_or (low_or (low_or rfl (putRd_low rd)) (putRs1_low rs1)) (putRs2_low rs2)
theorem sltu (rd : Reg) (rs1 : Reg) (rs2 : Reg) : Statement (.sltu rd rs1 rs2) :=
  low_or (low_or (low_or rfl (putRd_low rd)) (putRs1_low rs1)) (putRs2_low rs2)
theorem xor (rd : Reg) (rs1 : Reg) (rs2 : Reg) : Statement (.xor rd rs1 rs2) :=
  low_or (low_or (low_or rfl (putRd_low rd)) (putRs1_low rs1)) (putRs2_low rs2)
theorem srl (rd : Reg) (rs1 : Reg) (rs2 : Reg) : Statement (.srl rd rs1 rs2) :=
  low_or (low_or (low_or rfl (putRd_low rd)) (putRs1_low rs1)) (putRs2_low rs2)
theorem sra (rd : Reg) (rs1 : Reg) (rs2 : Reg) : Statement (.sra rd rs1 rs2) :=
  low_or (low_or (low_or rfl (putRd_low rd)) (putRs1_low rs1)) (putRs2_low rs2)
theorem or (rd : Reg) (rs1 : Reg) (rs2 : Reg) : Statement (.or rd rs1 rs2) :=
  low_or (low_or (low_or rfl (putRd_low rd)) (putRs1_low rs1)) (putRs2_low rs2)
theorem and (rd : Reg) (rs1 : Reg) (rs2 : Reg) : Statement (.and rd rs1 rs2) :=
  low_or (low_or (low_or rfl (putRd_low rd)) (putRs1_low rs1)) (putRs2_low rs2)
theorem mul (rd : Reg) (rs1 : Reg) (rs2 : Reg) : Statement (.mul rd rs1 rs2) :=
  low_or (low_or (low_or rfl (putRd_low rd)) (putRs1_low rs1)) (putRs2_low rs2)
theorem mulh (rd : Reg) (rs1 : Reg) (rs2 : Reg) : Statement (.mulh rd rs1 rs2) :=
  low_or (low_or (low_or rfl (putRd_low rd)) (putRs1_low rs1)) (putRs2_low rs2)
theorem mulhsu (rd : Reg) (rs1 : Reg) (rs2 : Reg) : Statement (.mulhsu rd rs1 rs2) :=
  low_or (low_or (low_or rfl (putRd_low rd)) (putRs1_low rs1)) (putRs2_low rs2)
theorem mulhu (rd : Reg) (rs1 : Reg) (rs2 : Reg) : Statement (.mulhu rd rs1 rs2) :=
  low_or (low_or (low_or rfl (putRd_low rd)) (putRs1_low rs1)) (putRs2_low rs2)
theorem div (rd : Reg) (rs1 : Reg) (rs2 : Reg) : Statement (.div rd rs1 rs2) :=
  low_or (low_or (low_or rfl (putRd_low rd)) (putRs1_low rs1)) (putRs2_low rs2)
theorem divu (rd : Reg) (rs1 : Reg) (rs2 : Reg) : Statement (.divu rd rs1 rs2) :=
  low_or (low_or (low_or rfl (putRd_low rd)) (putRs1_low rs1)) (putRs2_low rs2)
theorem rem (rd : Reg) (rs1 : Reg) (rs2 : Reg) : Statement (.rem rd rs1 rs2) :=
  low_or (low_or (low_or rfl (putRd_low rd)) (putRs1_low rs1)) (putRs2_low rs2)
theorem remu (rd : Reg) (rs1 : Reg) (rs2 : Reg) : Statement (.remu rd rs1 rs2) :=
  low_or (low_or (low_or rfl (putRd_low rd)) (putRs1_low rs1)) (putRs2_low rs2)
theorem jal (rd : Reg) (imm : BitVec 21) : Statement (.jal rd imm) :=
  low_or (low_or rfl (putRd_low rd)) (putImmJ_low imm)
theorem jalr (rd : Reg) (rs1 : Reg) (imm : BitVec 12) : Statement (.jalr rd rs1 imm) :=
  low_or (low_or (low_or rfl (putRd_low rd)) (putRs1_low rs1)) (putImmI_low imm)
theorem beq (rs1 : Reg) (rs2 : Reg) (imm : BitVec 13) : Statement (.beq rs1 rs2 imm) :=
  low_or (low_or (low_or rfl (putRs1_low rs1)) (putRs2_low rs2)) (putImmB_low imm)
theorem bne (rs1 : Reg) (rs2 : Reg) (imm : BitVec 13) : Statement (.bne rs1 rs2 imm) :=
  low_or (low_or (low_or rfl (putRs1_low rs1)) (putRs2_low rs2)) (putImmB_low imm)
theorem blt (rs1 : Reg) (rs2 : Reg) (imm : BitVec 13) : Statement (.blt rs1 rs2 imm) :=
  low_or (low_or (low_or rfl (putRs1_low rs1)) (putRs2_low rs2)) (putImmB_low imm)
theorem bge (rs1 : Reg) (rs2 : Reg) (imm : BitVec 13) : Statement (.bge rs1 rs2 imm) :=
  low_or (low_or (low_or rfl (putRs1_low rs1)) (putRs2_low rs2)) (putImmB_low imm)
theorem bltu (rs1 : Reg) (rs2 : Reg) (imm : BitVec 13) : Statement (.bltu rs1 rs2 imm) :=
  low_or (low_or (low_or rfl (putRs1_low rs1)) (putRs2_low rs2)) (putImmB_low imm)
theorem bgeu (rs1 : Reg) (rs2 : Reg) (imm : BitVec 13) : Statement (.bgeu rs1 rs2 imm) :=
  low_or (low_or (low_or rfl (putRs1_low rs1)) (putRs2_low rs2)) (putImmB_low imm)
theorem lb (rd : Reg) (rs1 : Reg) (imm : BitVec 12) : Statement (.lb rd rs1 imm) :=
  low_or (low_or (low_or rfl (putRd_low rd)) (putRs1_low rs1)) (putImmI_low imm)
theorem lh (rd : Reg) (rs1 : Reg) (imm : BitVec 12) : Statement (.lh rd rs1 imm) :=
  low_or (low_or (low_or rfl (putRd_low rd)) (putRs1_low rs1)) (putImmI_low imm)
theorem lw (rd : Reg) (rs1 : Reg) (imm : BitVec 12) : Statement (.lw rd rs1 imm) :=
  low_or (low_or (low_or rfl (putRd_low rd)) (putRs1_low rs1)) (putImmI_low imm)
theorem lbu (rd : Reg) (rs1 : Reg) (imm : BitVec 12) : Statement (.lbu rd rs1 imm) :=
  low_or (low_or (low_or rfl (putRd_low rd)) (putRs1_low rs1)) (putImmI_low imm)
theorem lhu (rd : Reg) (rs1 : Reg) (imm : BitVec 12) : Statement (.lhu rd rs1 imm) :=
  low_or (low_or (low_or rfl (putRd_low rd)) (putRs1_low rs1)) (putImmI_low imm)
theorem sb (rs1 : Reg) (rs2 : Reg) (imm : BitVec 12) : Statement (.sb rs1 rs2 imm) :=
  low_or (low_or (low_or rfl (putRs1_low rs1)) (putRs2_low rs2)) (putImmS_low imm)
theorem sh (rs1 : Reg) (rs2 : Reg) (imm : BitVec 12) : Statement (.sh rs1 rs2 imm) :=
  low_or (low_or (low_or rfl (putRs1_low rs1)) (putRs2_low rs2)) (putImmS_low imm)
theorem sw (rs1 : Reg) (rs2 : Reg) (imm : BitVec 12) : Statement (.sw rs1 rs2 imm) :=
  low_or (low_or (low_or rfl (putRs1_low rs1)) (putRs2_low rs2)) (putImmS_low imm)
theorem lrW (rd : Reg) (rs1 : Reg) (aq : Bool) (rl : Bool) : Statement (.lrW rd rs1 aq rl) :=
  low_or (low_or (low_or (low_or rfl (putRd_low rd)) (putRs1_low rs1)) (putAq_low aq)) (putRl_low rl)
theorem scW (rd : Reg) (rs1 : Reg) (rs2 : Reg) (aq : Bool) (rl : Bool) : Statement (.scW rd rs1 rs2 aq rl) :=
  low_or (low_or (low_or (low_or (low_or rfl (putRd_low rd)) (putRs1_low rs1)) (putRs2_low rs2)) (putAq_low aq)) (putRl_low rl)
theorem amoswapW (rd : Reg) (rs1 : Reg) (rs2 : Reg) (aq : Bool) (rl : Bool) : Statement (.amoswapW rd rs1 rs2 aq rl) :=
  low_or (low_or (low_or (low_or (low_or rfl (putRd_low rd)) (putRs1_low rs1)) (putRs2_low rs2)) (putAq_low aq)) (putRl_low rl)
theorem amoaddW (rd : Reg) (rs1 : Reg) (rs2 : Reg) (aq : Bool) (rl : Bool) : Statement (.amoaddW rd rs1 rs2 aq rl) :=
  low_or (low_or (low_or (low_or (low_or rfl (putRd_low rd)) (putRs1_low rs1)) (putRs2_low rs2)) (putAq_low aq)) (putRl_low rl)
theorem amoxorW (rd : Reg) (rs1 : Reg) (rs2 : Reg) (aq : Bool) (rl : Bool) : Statement (.amoxorW rd rs1 rs2 aq rl) :=
  low_or (low_or (low_or (low_or (low_or rfl (putRd_low rd)) (putRs1_low rs1)) (putRs2_low rs2)) (putAq_low aq)) (putRl_low rl)
theorem amoandW (rd : Reg) (rs1 : Reg) (rs2 : Reg) (aq : Bool) (rl : Bool) : Statement (.amoandW rd rs1 rs2 aq rl) :=
  low_or (low_or (low_or (low_or (low_or rfl (putRd_low rd)) (putRs1_low rs1)) (putRs2_low rs2)) (putAq_low aq)) (putRl_low rl)
theorem amoorW (rd : Reg) (rs1 : Reg) (rs2 : Reg) (aq : Bool) (rl : Bool) : Statement (.amoorW rd rs1 rs2 aq rl) :=
  low_or (low_or (low_or (low_or (low_or rfl (putRd_low rd)) (putRs1_low rs1)) (putRs2_low rs2)) (putAq_low aq)) (putRl_low rl)
theorem amominW (rd : Reg) (rs1 : Reg) (rs2 : Reg) (aq : Bool) (rl : Bool) : Statement (.amominW rd rs1 rs2 aq rl) :=
  low_or (low_or (low_or (low_or (low_or rfl (putRd_low rd)) (putRs1_low rs1)) (putRs2_low rs2)) (putAq_low aq)) (putRl_low rl)
theorem amomaxW (rd : Reg) (rs1 : Reg) (rs2 : Reg) (aq : Bool) (rl : Bool) : Statement (.amomaxW rd rs1 rs2 aq rl) :=
  low_or (low_or (low_or (low_or (low_or rfl (putRd_low rd)) (putRs1_low rs1)) (putRs2_low rs2)) (putAq_low aq)) (putRl_low rl)
theorem amominuW (rd : Reg) (rs1 : Reg) (rs2 : Reg) (aq : Bool) (rl : Bool) : Statement (.amominuW rd rs1 rs2 aq rl) :=
  low_or (low_or (low_or (low_or (low_or rfl (putRd_low rd)) (putRs1_low rs1)) (putRs2_low rs2)) (putAq_low aq)) (putRl_low rl)
theorem amomaxuW (rd : Reg) (rs1 : Reg) (rs2 : Reg) (aq : Bool) (rl : Bool) : Statement (.amomaxuW rd rs1 rs2 aq rl) :=
  low_or (low_or (low_or (low_or (low_or rfl (putRd_low rd)) (putRs1_low rs1)) (putRs2_low rs2)) (putAq_low aq)) (putRl_low rl)
theorem fence (fm : BitVec 4) (pred : BitVec 4) (succ : BitVec 4) (rs1 : Reg) (rd : Reg) : Statement (.fence fm pred succ rs1 rd) :=
  low_or (low_or (low_or (low_or (low_or rfl (putFm_low fm)) (putPred_low pred)) (putSucc_low succ)) (putRs1_low rs1)) (putRd_low rd)
theorem fenceI (imm : BitVec 12) (rs1 : Reg) (rd : Reg) : Statement (.fenceI imm rs1 rd) :=
  low_or (low_or (low_or rfl (putImmI_low imm)) (putRs1_low rs1)) (putRd_low rd)
theorem ecall : Statement .ecall := rfl
theorem ebreak : Statement .ebreak := rfl
theorem wfi : Statement .wfi := rfl
theorem csrrw (rd : Reg) (csr : BitVec 12) (rs1 : Reg) : Statement (.csrrw rd csr rs1) :=
  low_or (low_or (low_or rfl (putRd_low rd)) (putCsr_low csr)) (putRs1_low rs1)
theorem csrrs (rd : Reg) (csr : BitVec 12) (rs1 : Reg) : Statement (.csrrs rd csr rs1) :=
  low_or (low_or (low_or rfl (putRd_low rd)) (putCsr_low csr)) (putRs1_low rs1)
theorem csrrc (rd : Reg) (csr : BitVec 12) (rs1 : Reg) : Statement (.csrrc rd csr rs1) :=
  low_or (low_or (low_or rfl (putRd_low rd)) (putCsr_low csr)) (putRs1_low rs1)
theorem csrrwi (rd : Reg) (csr : BitVec 12) (uimm : BitVec 5) : Statement (.csrrwi rd csr uimm) :=
  low_or (low_or (low_or rfl (putRd_low rd)) (putCsr_low csr)) (putUimm_low uimm)
theorem csrrsi (rd : Reg) (csr : BitVec 12) (uimm : BitVec 5) : Statement (.csrrsi rd csr uimm) :=
  low_or (low_or (low_or rfl (putRd_low rd)) (putCsr_low csr)) (putUimm_low uimm)
theorem csrrci (rd : Reg) (csr : BitVec 12) (uimm : BitVec 5) : Statement (.csrrci rd csr uimm) :=
  low_or (low_or (low_or rfl (putRd_low rd)) (putCsr_low csr)) (putUimm_low uimm)
theorem flw (rd : FReg) (rs1 : Reg) (imm : BitVec 12) : Statement (.flw rd rs1 imm) :=
  low_or (low_or (low_or rfl (putRd_low rd)) (putRs1_low rs1)) (putImmI_low imm)
theorem fsw (rs1 : Reg) (rs2 : FReg) (imm : BitVec 12) : Statement (.fsw rs1 rs2 imm) :=
  low_or (low_or (low_or rfl (putRs1_low rs1)) (putRs2_low rs2)) (putImmS_low imm)
theorem fmaddS (rd : FReg) (rs1 : FReg) (rs2 : FReg) (rs3 : FReg) (rm : BitVec 3) : Statement (.fmaddS rd rs1 rs2 rs3 rm) :=
  low_or (low_or (low_or (low_or (low_or rfl (putRd_low rd)) (putRs1_low rs1)) (putRs2_low rs2)) (putRs3_low rs3)) (putRm_low rm)
theorem fmsubS (rd : FReg) (rs1 : FReg) (rs2 : FReg) (rs3 : FReg) (rm : BitVec 3) : Statement (.fmsubS rd rs1 rs2 rs3 rm) :=
  low_or (low_or (low_or (low_or (low_or rfl (putRd_low rd)) (putRs1_low rs1)) (putRs2_low rs2)) (putRs3_low rs3)) (putRm_low rm)
theorem fnmsubS (rd : FReg) (rs1 : FReg) (rs2 : FReg) (rs3 : FReg) (rm : BitVec 3) : Statement (.fnmsubS rd rs1 rs2 rs3 rm) :=
  low_or (low_or (low_or (low_or (low_or rfl (putRd_low rd)) (putRs1_low rs1)) (putRs2_low rs2)) (putRs3_low rs3)) (putRm_low rm)
theorem fnmaddS (rd : FReg) (rs1 : FReg) (rs2 : FReg) (rs3 : FReg) (rm : BitVec 3) : Statement (.fnmaddS rd rs1 rs2 rs3 rm) :=
  low_or (low_or (low_or (low_or (low_or rfl (putRd_low rd)) (putRs1_low rs1)) (putRs2_low rs2)) (putRs3_low rs3)) (putRm_low rm)
theorem faddS (rd : FReg) (rs1 : FReg) (rs2 : FReg) (rm : BitVec 3) : Statement (.faddS rd rs1 rs2 rm) :=
  low_or (low_or (low_or (low_or rfl (putRd_low rd)) (putRs1_low rs1)) (putRs2_low rs2)) (putRm_low rm)
theorem fsubS (rd : FReg) (rs1 : FReg) (rs2 : FReg) (rm : BitVec 3) : Statement (.fsubS rd rs1 rs2 rm) :=
  low_or (low_or (low_or (low_or rfl (putRd_low rd)) (putRs1_low rs1)) (putRs2_low rs2)) (putRm_low rm)
theorem fmulS (rd : FReg) (rs1 : FReg) (rs2 : FReg) (rm : BitVec 3) : Statement (.fmulS rd rs1 rs2 rm) :=
  low_or (low_or (low_or (low_or rfl (putRd_low rd)) (putRs1_low rs1)) (putRs2_low rs2)) (putRm_low rm)
theorem fdivS (rd : FReg) (rs1 : FReg) (rs2 : FReg) (rm : BitVec 3) : Statement (.fdivS rd rs1 rs2 rm) :=
  low_or (low_or (low_or (low_or rfl (putRd_low rd)) (putRs1_low rs1)) (putRs2_low rs2)) (putRm_low rm)
theorem fsqrtS (rd : FReg) (rs1 : FReg) (rm : BitVec 3) : Statement (.fsqrtS rd rs1 rm) :=
  low_or (low_or (low_or rfl (putRd_low rd)) (putRs1_low rs1)) (putRm_low rm)
theorem fsgnjS (rd : FReg) (rs1 : FReg) (rs2 : FReg) : Statement (.fsgnjS rd rs1 rs2) :=
  low_or (low_or (low_or rfl (putRd_low rd)) (putRs1_low rs1)) (putRs2_low rs2)
theorem fsgnjnS (rd : FReg) (rs1 : FReg) (rs2 : FReg) : Statement (.fsgnjnS rd rs1 rs2) :=
  low_or (low_or (low_or rfl (putRd_low rd)) (putRs1_low rs1)) (putRs2_low rs2)
theorem fsgnjxS (rd : FReg) (rs1 : FReg) (rs2 : FReg) : Statement (.fsgnjxS rd rs1 rs2) :=
  low_or (low_or (low_or rfl (putRd_low rd)) (putRs1_low rs1)) (putRs2_low rs2)
theorem fminS (rd : FReg) (rs1 : FReg) (rs2 : FReg) : Statement (.fminS rd rs1 rs2) :=
  low_or (low_or (low_or rfl (putRd_low rd)) (putRs1_low rs1)) (putRs2_low rs2)
theorem fmaxS (rd : FReg) (rs1 : FReg) (rs2 : FReg) : Statement (.fmaxS rd rs1 rs2) :=
  low_or (low_or (low_or rfl (putRd_low rd)) (putRs1_low rs1)) (putRs2_low rs2)
theorem fcvtWS (rd : Reg) (rs1 : FReg) (rm : BitVec 3) : Statement (.fcvtWS rd rs1 rm) :=
  low_or (low_or (low_or rfl (putRd_low rd)) (putRs1_low rs1)) (putRm_low rm)
theorem fcvtWuS (rd : Reg) (rs1 : FReg) (rm : BitVec 3) : Statement (.fcvtWuS rd rs1 rm) :=
  low_or (low_or (low_or rfl (putRd_low rd)) (putRs1_low rs1)) (putRm_low rm)
theorem fmvXW (rd : Reg) (rs1 : FReg) : Statement (.fmvXW rd rs1) :=
  low_or (low_or rfl (putRd_low rd)) (putRs1_low rs1)
theorem feqS (rd : Reg) (rs1 : FReg) (rs2 : FReg) : Statement (.feqS rd rs1 rs2) :=
  low_or (low_or (low_or rfl (putRd_low rd)) (putRs1_low rs1)) (putRs2_low rs2)
theorem fltS (rd : Reg) (rs1 : FReg) (rs2 : FReg) : Statement (.fltS rd rs1 rs2) :=
  low_or (low_or (low_or rfl (putRd_low rd)) (putRs1_low rs1)) (putRs2_low rs2)
theorem fleS (rd : Reg) (rs1 : FReg) (rs2 : FReg) : Statement (.fleS rd rs1 rs2) :=
  low_or (low_or (low_or rfl (putRd_low rd)) (putRs1_low rs1)) (putRs2_low rs2)
theorem fclassS (rd : Reg) (rs1 : FReg) : Statement (.fclassS rd rs1) :=
  low_or (low_or rfl (putRd_low rd)) (putRs1_low rs1)
theorem fcvtSW (rd : FReg) (rs1 : Reg) (rm : BitVec 3) : Statement (.fcvtSW rd rs1 rm) :=
  low_or (low_or (low_or rfl (putRd_low rd)) (putRs1_low rs1)) (putRm_low rm)
theorem fcvtSWu (rd : FReg) (rs1 : Reg) (rm : BitVec 3) : Statement (.fcvtSWu rd rs1 rm) :=
  low_or (low_or (low_or rfl (putRd_low rd)) (putRs1_low rs1)) (putRm_low rm)
theorem fmvWX (rd : FReg) (rs1 : Reg) : Statement (.fmvWX rd rs1) :=
  low_or (low_or rfl (putRd_low rd)) (putRs1_low rs1)
theorem fld (rd : FReg) (rs1 : Reg) (imm : BitVec 12) : Statement (.fld rd rs1 imm) :=
  low_or (low_or (low_or rfl (putRd_low rd)) (putRs1_low rs1)) (putImmI_low imm)
theorem fsd (rs1 : Reg) (rs2 : FReg) (imm : BitVec 12) : Statement (.fsd rs1 rs2 imm) :=
  low_or (low_or (low_or rfl (putRs1_low rs1)) (putRs2_low rs2)) (putImmS_low imm)
theorem fmaddD (rd : FReg) (rs1 : FReg) (rs2 : FReg) (rs3 : FReg) (rm : BitVec 3) : Statement (.fmaddD rd rs1 rs2 rs3 rm) :=
  low_or (low_or (low_or (low_or (low_or rfl (putRd_low rd)) (putRs1_low rs1)) (putRs2_low rs2)) (putRs3_low rs3)) (putRm_low rm)
theorem fmsubD (rd : FReg) (rs1 : FReg) (rs2 : FReg) (rs3 : FReg) (rm : BitVec 3) : Statement (.fmsubD rd rs1 rs2 rs3 rm) :=
  low_or (low_or (low_or (low_or (low_or rfl (putRd_low rd)) (putRs1_low rs1)) (putRs2_low rs2)) (putRs3_low rs3)) (putRm_low rm)
theorem fnmsubD (rd : FReg) (rs1 : FReg) (rs2 : FReg) (rs3 : FReg) (rm : BitVec 3) : Statement (.fnmsubD rd rs1 rs2 rs3 rm) :=
  low_or (low_or (low_or (low_or (low_or rfl (putRd_low rd)) (putRs1_low rs1)) (putRs2_low rs2)) (putRs3_low rs3)) (putRm_low rm)
theorem fnmaddD (rd : FReg) (rs1 : FReg) (rs2 : FReg) (rs3 : FReg) (rm : BitVec 3) : Statement (.fnmaddD rd rs1 rs2 rs3 rm) :=
  low_or (low_or (low_or (low_or (low_or rfl (putRd_low rd)) (putRs1_low rs1)) (putRs2_low rs2)) (putRs3_low rs3)) (putRm_low rm)
theorem faddD (rd : FReg) (rs1 : FReg) (rs2 : FReg) (rm : BitVec 3) : Statement (.faddD rd rs1 rs2 rm) :=
  low_or (low_or (low_or (low_or rfl (putRd_low rd)) (putRs1_low rs1)) (putRs2_low rs2)) (putRm_low rm)
theorem fsubD (rd : FReg) (rs1 : FReg) (rs2 : FReg) (rm : BitVec 3) : Statement (.fsubD rd rs1 rs2 rm) :=
  low_or (low_or (low_or (low_or rfl (putRd_low rd)) (putRs1_low rs1)) (putRs2_low rs2)) (putRm_low rm)
theorem fmulD (rd : FReg) (rs1 : FReg) (rs2 : FReg) (rm : BitVec 3) : Statement (.fmulD rd rs1 rs2 rm) :=
  low_or (low_or (low_or (low_or rfl (putRd_low rd)) (putRs1_low rs1)) (putRs2_low rs2)) (putRm_low rm)
theorem fdivD (rd : FReg) (rs1 : FReg) (rs2 : FReg) (rm : BitVec 3) : Statement (.fdivD rd rs1 rs2 rm) :=
  low_or (low_or (low_or (low_or rfl (putRd_low rd)) (putRs1_low rs1)) (putRs2_low rs2)) (putRm_low rm)
theorem fsqrtD (rd : FReg) (rs1 : FReg) (rm : BitVec 3) : Statement (.fsqrtD rd rs1 rm) :=
  low_or (low_or (low_or rfl (putRd_low rd)) (putRs1_low rs1)) (putRm_low rm)
theorem fsgnjD (rd : FReg) (rs1 : FReg) (rs2 : FReg) : Statement (.fsgnjD rd rs1 rs2) :=
  low_or (low_or (low_or rfl (putRd_low rd)) (putRs1_low rs1)) (putRs2_low rs2)
theorem fsgnjnD (rd : FReg) (rs1 : FReg) (rs2 : FReg) : Statement (.fsgnjnD rd rs1 rs2) :=
  low_or (low_or (low_or rfl (putRd_low rd)) (putRs1_low rs1)) (putRs2_low rs2)
theorem fsgnjxD (rd : FReg) (rs1 : FReg) (rs2 : FReg) : Statement (.fsgnjxD rd rs1 rs2) :=
  low_or (low_or (low_or rfl (putRd_low rd)) (putRs1_low rs1)) (putRs2_low rs2)
theorem fminD (rd : FReg) (rs1 : FReg) (rs2 : FReg) : Statement (.fminD rd rs1 rs2) :=
  low_or (low_or (low_or rfl (putRd_low rd)) (putRs1_low rs1)) (putRs2_low rs2)
theorem fmaxD (rd : FReg) (rs1 : FReg) (rs2 : FReg) : Statement (.fmaxD rd rs1 rs2) :=
  low_or (low_or (low_or rfl (putRd_low rd)) (putRs1_low rs1)) (putRs2_low rs2)
theorem fcvtSD (rd : FReg) (rs1 : FReg) (rm : BitVec 3) : Statement (.fcvtSD rd rs1 rm) :=
  low_or (low_or (low_or rfl (putRd_low rd)) (putRs1_low rs1)) (putRm_low rm)
theorem fcvtDS (rd : FReg) (rs1 : FReg) (rm : BitVec 3) : Statement (.fcvtDS rd rs1 rm) :=
  low_or (low_or (low_or rfl (putRd_low rd)) (putRs1_low rs1)) (putRm_low rm)
theorem feqD (rd : Reg) (rs1 : FReg) (rs2 : FReg) : Statement (.feqD rd rs1 rs2) :=
  low_or (low_or (low_or rfl (putRd_low rd)) (putRs1_low rs1)) (putRs2_low rs2)
theorem fltD (rd : Reg) (rs1 : FReg) (rs2 : FReg) : Statement (.fltD rd rs1 rs2) :=
  low_or (low_or (low_or rfl (putRd_low rd)) (putRs1_low rs1)) (putRs2_low rs2)
theorem fleD (rd : Reg) (rs1 : FReg) (rs2 : FReg) : Statement (.fleD rd rs1 rs2) :=
  low_or (low_or (low_or rfl (putRd_low rd)) (putRs1_low rs1)) (putRs2_low rs2)
theorem fclassD (rd : Reg) (rs1 : FReg) : Statement (.fclassD rd rs1) :=
  low_or (low_or rfl (putRd_low rd)) (putRs1_low rs1)
theorem fcvtWD (rd : Reg) (rs1 : FReg) (rm : BitVec 3) : Statement (.fcvtWD rd rs1 rm) :=
  low_or (low_or (low_or rfl (putRd_low rd)) (putRs1_low rs1)) (putRm_low rm)
theorem fcvtWuD (rd : Reg) (rs1 : FReg) (rm : BitVec 3) : Statement (.fcvtWuD rd rs1 rm) :=
  low_or (low_or (low_or rfl (putRd_low rd)) (putRs1_low rs1)) (putRm_low rm)
theorem fcvtDW (rd : FReg) (rs1 : Reg) (rm : BitVec 3) : Statement (.fcvtDW rd rs1 rm) :=
  low_or (low_or (low_or rfl (putRd_low rd)) (putRs1_low rs1)) (putRm_low rm)
theorem fcvtDWu (rd : FReg) (rs1 : Reg) (rm : BitVec 3) : Statement (.fcvtDWu rd rs1 rm) :=
  low_or (low_or (low_or rfl (putRd_low rd)) (putRs1_low rs1)) (putRm_low rm)
theorem cAddi4spn (rd : CReg) (nzuimm : BitVec 10) : Statement (.cAddi4spn rd nzuimm) :=
  not_long_of_low_0 (low_or (low_or rfl (putLow3_low rd)) (putCAddi4spn_low nzuimm))
theorem cFld (rd : CFReg) (rs1 : CReg) (uimm : BitVec 8) : Statement (.cFld rd rs1 uimm) :=
  not_long_of_low_0 (low_or (low_or (low_or rfl (putLow3_low rd)) (putMid3_low rs1)) (putCDouble_low uimm))
theorem cLw (rd : CReg) (rs1 : CReg) (uimm : BitVec 7) : Statement (.cLw rd rs1 uimm) :=
  not_long_of_low_0 (low_or (low_or (low_or rfl (putLow3_low rd)) (putMid3_low rs1)) (putCWord_low uimm))
theorem cFlw (rd : CFReg) (rs1 : CReg) (uimm : BitVec 7) : Statement (.cFlw rd rs1 uimm) :=
  not_long_of_low_0 (low_or (low_or (low_or rfl (putLow3_low rd)) (putMid3_low rs1)) (putCWord_low uimm))
theorem cFsd (rs1 : CReg) (rs2 : CFReg) (uimm : BitVec 8) : Statement (.cFsd rs1 rs2 uimm) :=
  not_long_of_low_0 (low_or (low_or (low_or rfl (putMid3_low rs1)) (putLow3_low rs2)) (putCDouble_low uimm))
theorem cSw (rs1 : CReg) (rs2 : CReg) (uimm : BitVec 7) : Statement (.cSw rs1 rs2 uimm) :=
  not_long_of_low_0 (low_or (low_or (low_or rfl (putMid3_low rs1)) (putLow3_low rs2)) (putCWord_low uimm))
theorem cFsw (rs1 : CReg) (rs2 : CFReg) (uimm : BitVec 7) : Statement (.cFsw rs1 rs2 uimm) :=
  not_long_of_low_0 (low_or (low_or (low_or rfl (putMid3_low rs1)) (putLow3_low rs2)) (putCWord_low uimm))
theorem cNop (imm : BitVec 6) : Statement (.cNop imm) := not_long_of_low_1 (low_or rfl (putCImm6_low imm))
theorem cAddi (rd : Reg) (imm : BitVec 6) : Statement (.cAddi rd imm) :=
  not_long_of_low_1 (low_or (low_or rfl (putMid5_low rd)) (putCImm6_low imm))
theorem cJal (imm : BitVec 12) : Statement (.cJal imm) := not_long_of_low_1 (low_or rfl (putCJump_low imm))
theorem cLi (rd : Reg) (imm : BitVec 6) : Statement (.cLi rd imm) :=
  not_long_of_low_1 (low_or (low_or rfl (putMid5_low rd)) (putCImm6_low imm))
theorem cAddi16sp (nzimm : BitVec 10) : Statement (.cAddi16sp nzimm) :=
  not_long_of_low_1 (low_or rfl (putCAddi16sp_low nzimm))
theorem cLui (rd : Reg) (nzimm : BitVec 18) : Statement (.cLui rd nzimm) :=
  not_long_of_low_1 (low_or (low_or rfl (putMid5_low rd)) (putCLui_low nzimm))
theorem cSrli (rd : CReg) (shamt : BitVec 5) : Statement (.cSrli rd shamt) :=
  not_long_of_low_1 (low_or (low_or rfl (putMid3_low rd)) (putCShamt_low shamt))
theorem cSrai (rd : CReg) (shamt : BitVec 5) : Statement (.cSrai rd shamt) :=
  not_long_of_low_1 (low_or (low_or rfl (putMid3_low rd)) (putCShamt_low shamt))
theorem cAndi (rd : CReg) (imm : BitVec 6) : Statement (.cAndi rd imm) :=
  not_long_of_low_1 (low_or (low_or rfl (putMid3_low rd)) (putCImm6_low imm))
theorem cSub (rd : CReg) (rs2 : CReg) : Statement (.cSub rd rs2) :=
  not_long_of_low_1 (low_or (low_or rfl (putMid3_low rd)) (putLow3_low rs2))
theorem cXor (rd : CReg) (rs2 : CReg) : Statement (.cXor rd rs2) :=
  not_long_of_low_1 (low_or (low_or rfl (putMid3_low rd)) (putLow3_low rs2))
theorem cOr (rd : CReg) (rs2 : CReg) : Statement (.cOr rd rs2) :=
  not_long_of_low_1 (low_or (low_or rfl (putMid3_low rd)) (putLow3_low rs2))
theorem cAnd (rd : CReg) (rs2 : CReg) : Statement (.cAnd rd rs2) :=
  not_long_of_low_1 (low_or (low_or rfl (putMid3_low rd)) (putLow3_low rs2))
theorem cJ (imm : BitVec 12) : Statement (.cJ imm) := not_long_of_low_1 (low_or rfl (putCJump_low imm))
theorem cBeqz (rs1 : CReg) (imm : BitVec 9) : Statement (.cBeqz rs1 imm) :=
  not_long_of_low_1 (low_or (low_or rfl (putMid3_low rs1)) (putCBranch_low imm))
theorem cBnez (rs1 : CReg) (imm : BitVec 9) : Statement (.cBnez rs1 imm) :=
  not_long_of_low_1 (low_or (low_or rfl (putMid3_low rs1)) (putCBranch_low imm))
theorem cSlli (rd : Reg) (shamt : BitVec 5) : Statement (.cSlli rd shamt) :=
  not_long_of_low_2 (low_or (low_or rfl (putMid5_low rd)) (putCShamt_low shamt))
theorem cFldsp (rd : FReg) (uimm : BitVec 9) : Statement (.cFldsp rd uimm) :=
  not_long_of_low_2 (low_or (low_or rfl (putMid5_low rd)) (putCDoubleSp_low uimm))
theorem cLwsp (rd : Reg) (uimm : BitVec 8) : Statement (.cLwsp rd uimm) :=
  not_long_of_low_2 (low_or (low_or rfl (putMid5_low rd)) (putCWordSp_low uimm))
theorem cFlwsp (rd : FReg) (uimm : BitVec 8) : Statement (.cFlwsp rd uimm) :=
  not_long_of_low_2 (low_or (low_or rfl (putMid5_low rd)) (putCWordSp_low uimm))
theorem cJr (rs1 : Reg) : Statement (.cJr rs1) := not_long_of_low_2 (low_or rfl (putMid5_low rs1))
theorem cMv (rd : Reg) (rs2 : Reg) : Statement (.cMv rd rs2) :=
  not_long_of_low_2 (low_or (low_or rfl (putMid5_low rd)) (putLow5_low rs2))
theorem cEbreak : Statement .cEbreak := not_long_of_low_2 rfl
theorem cJalr (rs1 : Reg) : Statement (.cJalr rs1) := not_long_of_low_2 (low_or rfl (putMid5_low rs1))
theorem cAdd (rd : Reg) (rs2 : Reg) : Statement (.cAdd rd rs2) :=
  not_long_of_low_2 (low_or (low_or rfl (putMid5_low rd)) (putLow5_low rs2))
theorem cFsdsp (rs2 : FReg) (uimm : BitVec 9) : Statement (.cFsdsp rs2 uimm) :=
  not_long_of_low_2 (low_or (low_or rfl (putLow5_low rs2)) (putCStoreDoubleSp_low uimm))
theorem cSwsp (rs2 : Reg) (uimm : BitVec 8) : Statement (.cSwsp rs2 uimm) :=
  not_long_of_low_2 (low_or (low_or rfl (putLow5_low rs2)) (putCStoreWordSp_low uimm))
theorem cFswsp (rs2 : FReg) (uimm : BitVec 8) : Statement (.cFswsp rs2 uimm) :=
  not_long_of_low_2 (low_or (low_or rfl (putLow5_low rs2)) (putCStoreWordSp_low uimm))

end Laws.LengthTold

end Sys2Proof
end

