-- ==== Sys2Proof/Tests/Slice0.lean ====
section
/-!
SUPPORT. The model's own tests: ill-formed terms are refused, every constructor is decoded from a word written out from
the encodings of 30_encoding.md, single steps from the vectors of 95_test_vectors.md and 96_test_vectors_fp.md, and for
every statement with hypotheses a state and operands that meet them.
-/

namespace Sys2Proof.Tests

open Sys2Proof Sys2Proof.Machine

-- One thread is enough here; each further one would reserve its own stack.
set_option Elab.async false

/-! ### Ill-formed terms (R103, R106, R118, R121) -/

def noneWellFormed (l : List Instr) : Bool := l.all fun i => !i.wellFormed

/-- Offsets that are odd. -/
theorem test_wellFormed_refuses_offsets : noneWellFormed [
    .jal 1 7#21, .beq 1 2 1#13, .bne 1 2 1#13, .blt 1 2 3#13, .bge 1 2 1#13, .bltu 1 2 5#13, .bgeu 1 2 1#13,
    .cJal 1#12, .cJ 3#12, .cBeqz 0 1#9, .cBnez 0 1#9] = true := by decide +kernel

/-- Unsigned immediates whose fixed low bits are not zero. -/
theorem test_wellFormed_refuses_scaled_immediates : noneWellFormed [
    .cAddi4spn 0 6#10, .cFld 0 0 4#8, .cLw 0 0 2#7, .cFlw 0 0 1#7, .cFsd 0 0 4#8, .cSw 0 0 2#7, .cFsw 0 0 3#7,
    .cAddi16sp 8#10, .cLui 3 0x800#18, .cFldsp 0 4#9, .cLwsp 1 2#8, .cFlwsp 0 1#8, .cFsdsp 0 4#9, .cSwsp 0 2#8,
    .cFswsp 0 2#8] = true := by decide +kernel

/-- The nine `require` entries. -/
theorem test_wellFormed_refuses_required : noneWellFormed [
    .cAddi4spn 0 0#10, .cAddi 0 1#6, .cAddi16sp 0#10, .cLui 2 0x1000#18, .cLui 3 0#18, .cLwsp 0 4#8, .cJr 0, .cMv 1 0,
    .cJalr 0, .cAdd 1 0] = true := by decide +kernel

/-! ### Decoding: every constructor, its word written out field by field (30_encoding.md R105 to R107, R117, R118) -/

def decodesAs (l : List (Code × Instr)) : Bool := l.all fun p => decide (decode Config.standard p.1 = .ok p.2)

theorem test_decode_integer_immediate : decodesAs [
    (.word 0b1011001_01000_11101_011_01001_0110111#32, .lui 9 0xb28eb#20),
    (.word 0b1110010_10001_11010_110_01010_0010111#32, .auipc 10 0xe51d6#20),
    (.word 0b1100101_00011_10100_000_01011_0010011#32, .addi 11 20 0xca3#12),
    (.word 0b1001010_00111_10101_010_01100_0010011#32, .slti 12 21 0x947#12),
    (.word 0b1010100_01110_10110_011_01101_0010011#32, .sltiu 13 22 0xa8e#12),
    (.word 0b1101000_11101_10111_100_01110_0010011#32, .xori 14 23 0xd1d#12),
    (.word 0b1010001_11010_11000_110_01111_0010011#32, .ori 15 24 0xa3a#12),
    (.word 0b1100011_10101_11001_111_10000_0010011#32, .andi 16 25 0xc75#12),
    (.word 0b0000000_10000_11010_001_10001_0010011#32, .slli 17 26 0x10#5),
    (.word 0b0000000_00011_10010_101_10010_0010011#32, .srli 18 18 0x3#5),
    (.word 0b0100000_00001_10011_101_10011_0010011#32, .srai 19 19 0x1#5)] = true := by decide +kernel

theorem test_decode_integer_register : decodesAs [
    (.word 0b0000000_10000_10100_000_10100_0110011#32, .add 20 20 16),
    (.word 0b0100000_10001_10101_000_10101_0110011#32, .sub 21 21 17),
    (.word 0b0000000_10010_10110_001_10110_0110011#32, .sll 22 22 18),
    (.word 0b0000000_10011_10111_010_10111_0110011#32, .slt 23 23 19),
    (.word 0b0000000_10100_11000_011_11000_0110011#32, .sltu 24 24 20),
    (.word 0b0000000_10101_11001_100_11001_0110011#32, .xor 25 25 21),
    (.word 0b0000000_00101_11010_101_11010_0110011#32, .srl 26 26 5),
    (.word 0b0100000_00110_10010_101_11011_0110011#32, .sra 27 18 6),
    (.word 0b0000000_00111_10011_110_11100_0110011#32, .or 28 19 7),
    (.word 0b0000000_01000_10100_111_01001_0110011#32, .and 9 20 8)] = true := by decide +kernel

theorem test_decode_multiply_divide : decodesAs [
    (.word 0b0000001_01001_10101_000_01010_0110011#32, .mul 10 21 9),
    (.word 0b0000001_01010_10110_001_01011_0110011#32, .mulh 11 22 10),
    (.word 0b0000001_01011_10111_010_01100_0110011#32, .mulhsu 12 23 11),
    (.word 0b0000001_01100_11000_011_01101_0110011#32, .mulhu 13 24 12),
    (.word 0b0000001_01101_11001_100_01110_0110011#32, .div 14 25 13),
    (.word 0b0000001_01110_11010_101_01111_0110011#32, .divu 15 26 14),
    (.word 0b0000001_01111_10010_110_10000_0110011#32, .rem 16 18 15),
    (.word 0b0000001_10000_10011_111_10001_0110011#32, .remu 17 19 16)] = true := by decide +kernel

theorem test_decode_control : decodesAs [
    (.word 0b1011011_01101_10001_110_10010_1101111#32, .jal 18 0x18eb6c#21),
    (.word 0b1000111_01011_10101_000_10011_1100111#32, .jalr 19 21 0x8eb#12),
    (.word 0b1011101_10011_10110_000_01100_1100011#32, .beq 22 19 0x13ac#13),
    (.word 0b1111010_10100_10111_001_11010_1100011#32, .bne 23 20 0x175a#13),
    (.word 0b1110101_10101_11000_100_10111_1100011#32, .blt 24 21 0x1eb6#13),
    (.word 0b1101011_00101_11001_101_01101_1100011#32, .bge 25 5 0x1d6c#13),
    (.word 0b1010110_00110_11010_110_11011_1100011#32, .bltu 26 6 0x1ada#13),
    (.word 0b1101101_00111_10010_111_10110_1100011#32, .bgeu 18 7 0x15b6#13)] = true := by decide +kernel

theorem test_decode_load_store : decodesAs [
    (.word 0b1101101_10110_10011_000_11010_0000011#32, .lb 26 19 0xdb6#12),
    (.word 0b1011011_01100_10100_001_11011_0000011#32, .lh 27 20 0xb6c#12),
    (.word 0b1110110_11001_10101_010_11100_0000011#32, .lw 28 21 0xed9#12),
    (.word 0b1101101_10010_10110_100_01001_0000011#32, .lbu 9 22 0xdb2#12),
    (.word 0b1011011_00101_10111_101_01010_0000011#32, .lhu 10 23 0xb65#12),
    (.word 0b1110110_01101_11000_000_01010_0100011#32, .sb 24 13 0xeca#12),
    (.word 0b1101100_01110_11001_001_10100_0100011#32, .sh 25 14 0xd94#12),
    (.word 0b1011001_01111_11010_010_01000_0100011#32, .sw 26 15 0xb28#12)] = true := by decide +kernel

theorem test_decode_atomic : decodesAs [
    (.word 0b0001010_00000_10010_010_01110_0101111#32, .lrW 14 18 true false),
    (.word 0b0001101_10001_10011_010_01111_0101111#32, .scW 15 19 17 false true),
    (.word 0b0000110_10010_10100_010_10000_0101111#32, .amoswapW 16 20 18 true false),
    (.word 0b0000001_10011_10101_010_10001_0101111#32, .amoaddW 17 21 19 false true),
    (.word 0b0010010_10100_10110_010_10010_0101111#32, .amoxorW 18 22 20 true false),
    (.word 0b0110001_10101_10111_010_10011_0101111#32, .amoandW 19 23 21 false true),
    (.word 0b0100010_00101_11000_010_10100_0101111#32, .amoorW 20 24 5 true false),
    (.word 0b1000001_00110_11001_010_10101_0101111#32, .amominW 21 25 6 false true),
    (.word 0b1010010_00111_11010_010_10110_0101111#32, .amomaxW 22 26 7 true false),
    (.word 0b1100001_01000_10010_010_10111_0101111#32, .amominuW 23 18 8 false true),
    (.word 0b1110010_01001_10011_010_11000_0101111#32, .amomaxuW 24 19 9 true false)] = true := by decide +kernel

theorem test_decode_system : decodesAs [
    (.word 0b0000000_00000_10100_000_11001_0001111#32, .fence 0x0#4 0x0#4 0x0#4 20 25),
    (.word 0b0101110_00011_10101_001_11010_0001111#32, .fenceI 0x5c3#12 21 26),
    (.word 0b0000000_00000_00000_000_00000_1110011#32, .ecall),
    (.word 0b0000000_00001_00000_000_00000_1110011#32, .ebreak),
    (.word 0b0001000_00101_00000_000_00000_1110011#32, .wfi),
    (.word 0b1100100_00000_11001_001_01010_1110011#32, .csrrw 10 0xc80#12 25),
    (.word 0b0000000_00010_11010_010_01011_1110011#32, .csrrs 11 0x2#12 26),
    (.word 0b1100000_00001_10010_011_01100_1110011#32, .csrrc 12 0xc01#12 18),
    (.word 0b0000000_00001_00001_101_01101_1110011#32, .csrrwi 13 0x1#12 0x1#5),
    (.word 0b1100000_00010_10000_110_01110_1110011#32, .csrrsi 14 0xc02#12 0x10#5),
    (.word 0b0000000_00011_00011_111_01111_1110011#32, .csrrci 15 0x3#12 0x3#5)] = true := by decide +kernel

theorem test_decode_single : decodesAs [
    (.word 0b1110010_10001_10110_010_10000_0000111#32, .flw 16 22 0xe51#12),
    (.word 0b1100101_00101_10111_010_00011_0100111#32, .fsw 23 5 0xca3#12),
    (.word 0b1101100_00110_11000_011_10010_1000011#32, .fmaddS 18 24 6 27 0x3#3),
    (.word 0b1101100_00111_11001_100_10011_1000111#32, .fmsubS 19 25 7 27 0x4#3),
    (.word 0b1101100_01000_11010_111_10100_1001011#32, .fnmsubS 20 26 8 27 0x7#3),
    (.word 0b1101100_01001_10010_000_10101_1001111#32, .fnmaddS 21 18 9 27 0x0#3),
    (.word 0b0000000_01010_10011_001_10110_1010011#32, .faddS 22 19 10 0x1#3),
    (.word 0b0000100_01011_10100_010_10111_1010011#32, .fsubS 23 20 11 0x2#3),
    (.word 0b0001000_01100_10101_011_11000_1010011#32, .fmulS 24 21 12 0x3#3),
    (.word 0b0001100_01101_10110_100_11001_1010011#32, .fdivS 25 22 13 0x4#3),
    (.word 0b0101100_00000_10111_111_11010_1010011#32, .fsqrtS 26 23 0x7#3)] = true := by decide +kernel

theorem test_decode_single_more : decodesAs [
    (.word 0b0010000_01111_11000_000_11011_1010011#32, .fsgnjS 27 24 15),
    (.word 0b0010000_10000_11001_001_11100_1010011#32, .fsgnjnS 28 25 16),
    (.word 0b0010000_10001_11010_010_01001_1010011#32, .fsgnjxS 9 26 17),
    (.word 0b0010100_10010_10010_000_01010_1010011#32, .fminS 10 18 18),
    (.word 0b0010100_10011_10011_001_01011_1010011#32, .fmaxS 11 19 19),
    (.word 0b1100000_00000_10100_111_01100_1010011#32, .fcvtWS 12 20 0x7#3),
    (.word 0b1100000_00001_10101_000_01101_1010011#32, .fcvtWuS 13 21 0x0#3),
    (.word 0b1110000_00000_10110_000_01110_1010011#32, .fmvXW 14 22),
    (.word 0b1010000_00110_10111_010_01111_1010011#32, .feqS 15 23 6),
    (.word 0b1010000_00111_11000_001_10000_1010011#32, .fltS 16 24 7),
    (.word 0b1010000_01000_11001_000_10001_1010011#32, .fleS 17 25 8),
    (.word 0b1110000_00000_11010_001_10010_1010011#32, .fclassS 18 26),
    (.word 0b1101000_00000_10010_000_10011_1010011#32, .fcvtSW 19 18 0x0#3),
    (.word 0b1101000_00001_10011_001_10100_1010011#32, .fcvtSWu 20 19 0x1#3),
    (.word 0b1111000_00000_10100_000_10101_1010011#32, .fmvWX 21 20)] = true := by decide +kernel

theorem test_decode_double : decodesAs [
    (.word 0b1101000_11101_10101_011_10110_0000111#32, .fld 22 21 0xd1d#12),
    (.word 0b1010001_01110_10110_011_11010_0100111#32, .fsd 22 14 0xa3a#12),
    (.word 0b1101101_01111_10111_111_11000_1000011#32, .fmaddD 24 23 15 27 0x7#3),
    (.word 0b1101101_10000_11000_000_11001_1000111#32, .fmsubD 25 24 16 27 0x0#3),
    (.word 0b1101101_10001_11001_001_11010_1001011#32, .fnmsubD 26 25 17 27 0x1#3),
    (.word 0b1101101_10010_11010_010_11011_1001111#32, .fnmaddD 27 26 18 27 0x2#3),
    (.word 0b0000001_10011_10010_011_11100_1010011#32, .faddD 28 18 19 0x3#3),
    (.word 0b0000101_10100_10011_100_01001_1010011#32, .fsubD 9 19 20 0x4#3),
    (.word 0b0001001_10101_10100_111_01010_1010011#32, .fmulD 10 20 21 0x7#3),
    (.word 0b0001101_00101_10101_000_01011_1010011#32, .fdivD 11 21 5 0x0#3),
    (.word 0b0101101_00000_10110_001_01100_1010011#32, .fsqrtD 12 22 0x1#3)] = true := by decide +kernel

theorem test_decode_double_more : decodesAs [
    (.word 0b0010001_00111_10111_000_01101_1010011#32, .fsgnjD 13 23 7),
    (.word 0b0010001_01000_11000_001_01110_1010011#32, .fsgnjnD 14 24 8),
    (.word 0b0010001_01001_11001_010_01111_1010011#32, .fsgnjxD 15 25 9),
    (.word 0b0010101_01010_11010_000_10000_1010011#32, .fminD 16 26 10),
    (.word 0b0010101_01011_10010_001_10001_1010011#32, .fmaxD 17 18 11),
    (.word 0b0100000_00001_10011_001_10010_1010011#32, .fcvtSD 18 19 0x1#3),
    (.word 0b0100001_00000_10100_010_10011_1010011#32, .fcvtDS 19 20 0x2#3),
    (.word 0b1010001_01110_10101_010_10100_1010011#32, .feqD 20 21 14),
    (.word 0b1010001_01111_10110_001_10101_1010011#32, .fltD 21 22 15),
    (.word 0b1010001_10000_10111_000_10110_1010011#32, .fleD 22 23 16),
    (.word 0b1110001_00000_11000_001_10111_1010011#32, .fclassD 23 24),
    (.word 0b1100001_00000_11001_001_11000_1010011#32, .fcvtWD 24 25 0x1#3),
    (.word 0b1100001_00001_11010_010_11001_1010011#32, .fcvtWuD 25 26 0x2#3),
    (.word 0b1101001_00000_10010_011_11010_1010011#32, .fcvtDW 26 18 0x3#3),
    (.word 0b1101001_00001_10011_100_11011_1010011#32, .fcvtDWu 27 19 0x4#3)] = true := by decide +kernel

theorem test_decode_compressed_quadrant0 : decodesAs [
    (.half 0b000_1_11_001_10_001_00#16, .cAddi4spn 1 0x274#10),
    (.half 0b001_1_11_110_10_010_00#16, .cFld 2 6 0xb8#8),
    (.half 0b010_1_11_101_01_011_00#16, .cLw 3 5 0x78#7),
    (.half 0b011_1_10_100_11_100_00#16, .cFlw 4 4 0x74#7),
    (.half 0b101_0_10_011_11_110_00#16, .cFsd 3 6 0xd0#8),
    (.half 0b110_0_10_010_11_011_00#16, .cSw 2 3 0x54#7),
    (.half 0b111_1_01_110_11_100_00#16, .cFsw 6 4 0x6c#7)] = true := by decide +kernel

theorem test_decode_compressed_quadrant1 : decodesAs [
    (.half 0b000_1_00_000_01_101_01#16, .cNop 0x2d#6),
    (.half 0b000_1_10_000_11_011_01#16, .cAddi 16 0x3b#6),
    (.half 0b001_1_10_110_10_011_01#16, .cJal 0xdb2#12),
    (.half 0b010_1_10_010_01_101_01#16, .cLi 18 0x2d#6),
    (.half 0b011_1_00_010_10_111_01#16, .cAddi16sp 0x3b0#10),
    (.half 0b011_1_10_100_10_110_01#16, .cLui 20 0x36000#18),
    (.half 0b100_0_00_111_10_110_01#16, .cSrli 7 0x16#5),
    (.half 0b100_0_01_001_11_100_01#16, .cSrai 1 0x1c#5),
    (.half 0b100_1_10_010_10_010_01#16, .cAndi 2 0x32#6),
    (.half 0b100_0_11_011_00_110_01#16, .cSub 3 6),
    (.half 0b100_0_11_100_01_011_01#16, .cXor 4 3),
    (.half 0b100_0_11_101_10_100_01#16, .cOr 5 4),
    (.half 0b100_0_11_110_11_101_01#16, .cAnd 6 5),
    (.half 0b101_1_10_011_00_101_01#16, .cJ 0xc74#12),
    (.half 0b110_1_11_110_00_100_01#16, .cBeqz 6 0x11c#9),
    (.half 0b111_1_11_101_00_011_01#16, .cBnez 5 0x13a#9)] = true := by decide +kernel

theorem test_decode_compressed_quadrant2 : decodesAs [
    (.half 0b000_0_01_011_10_111_10#16, .cSlli 11 0x17#5),
    (.half 0b001_1_01_100_01_111_10#16, .cFldsp 12 0x1e8#9),
    (.half 0b010_1_01_101_01_011_10#16, .cLwsp 13 0xe8#8),
    (.half 0b011_0_01_110_10_111_10#16, .cFlwsp 14 0xd4#8),
    (.half 0b100_0_10_100_00_000_10#16, .cJr 20),
    (.half 0b100_0_10_000_10_000_10#16, .cMv 16 16),
    (.half 0b100_1_00_000_00_000_10#16, .cEbreak),
    (.half 0b100_1_10_111_00_000_10#16, .cJalr 23),
    (.half 0b100_1_10_011_10_011_10#16, .cAdd 19 19),
    (.half 0b101_1_01_101_10_100_10#16, .cFsdsp 20 0x168#9),
    (.half 0b110_1_01_111_10_101_10#16, .cSwsp 21 0xec#8),
    (.half 0b111_0_11_011_00_101_10#16, .cFswsp 5 0xd8#8)] = true := by decide +kernel

/-! ### Single steps (95_test_vectors.md, 96_test_vectors_fp.md) -/

/-- The platform of the vectors: two mapped ranges. -/
def base : State :=
  { State.reset with map := [⟨0x1000#32, 0x20, true, true, true⟩, ⟨0x2000#32, 0x40, true, true, true⟩] }

/-- A word of data memory. -/
def put (a v : Word) (s : State) : State := { s with mem := writeBytes 4 s.mem a v }

/-- The memory image M1 of the integer vectors. -/
def m1 : State := put 0x2004#32 0x11223344#32 (put 0x2000#32 0x8899aabb#32 base)

/-- The step of this instruction at this state answers a next state of which `p` holds. -/
def runs (nbits w : Nat) (s : State) (p : State → Bool) : Bool :=
  match step (s.withFetchWord nbits w) with
  | .next t => p t
  | _ => false

/-- The trap was taken at the `pc` of `base`. -/
def took (tr : Trap) (t : State) : Bool :=
  t.answer == .err tr && t.mcause == tr.code && t.mtval == tr.value && t.mepc == 0x1000#32 && t.pc == 0x1000#32

def word (t : State) (a : Word) : Word := readBytes 4 t.mem a

/-! #### Integer -/

theorem test_addi_source_example : runs 32 0x00700093 base (fun t => t.getX 1 == 7#32 && t.pc == 0x1004#32 && t.clock == 1#64) = true := by
  decide +kernel

theorem test_addi_wraps : runs 32 0x00130293 (base.setX 6 0x7fffffff#32) (fun t => t.getX 5 == 0x80000000#32) = true := by
  decide +kernel

theorem test_addi_x0_stays_zero : runs 32 0x00500013 base (fun t => t.getX 0 == 0#32 && t.pc == 0x1004#32) = true := by
  decide +kernel

theorem test_lui : runs 32 0x123452b7 base (fun t => t.getX 5 == 0x12345000#32) = true := by
  decide +kernel

theorem test_auipc : runs 32 0xfffff297 (base.setX 5 1#32) (fun t => t.getX 5 == 0#32) = true := by
  decide +kernel

theorem test_slti_signed : runs 32 0xfff32293 (base.setX 6 0xfffffffe#32) (fun t => t.getX 5 == 1#32) = true := by
  decide +kernel

theorem test_sltiu_extends_sign_first : runs 32 0xfff33293 (base.setX 6 5#32) (fun t => t.getX 5 == 1#32) = true := by
  decide +kernel

theorem test_ori_negative : runs 32 0x80036293 (base.setX 6 1#32) (fun t => t.getX 5 == 0xfffff801#32) = true := by
  decide +kernel

theorem test_srli : runs 32 0x00435293 (base.setX 6 0x80000010#32) (fun t => t.getX 5 == 0x08000001#32) = true := by
  decide +kernel

theorem test_srai : runs 32 0x40435293 (base.setX 6 0x80000010#32) (fun t => t.getX 5 == 0xf8000001#32) = true := by
  decide +kernel

theorem test_slli_shamt_bit5 : runs 32 0x02031293 (base.setX 6 3#32) (fun t => took (.illegalInstruction 0x02031293#32) t) = true := by
  decide +kernel

theorem test_sub_order : runs 32 0x407302b3 ((base.setX 6 0#32).setX 7 1#32) (fun t => t.getX 5 == 0xffffffff#32) = true := by
  decide +kernel

theorem test_sll_uses_low_five_bits : runs 32 0x007312b3 ((base.setX 6 1#32).setX 7 0x21#32) (fun t => t.getX 5 == 2#32) = true := by
  decide +kernel

theorem test_slt : runs 32 0x007322b3 ((base.setX 6 0xffffffff#32).setX 7 1#32) (fun t => t.getX 5 == 1#32) = true := by
  decide +kernel

theorem test_sltu : runs 32 0x007332b3 (((base.setX 5 7#32).setX 6 0xffffffff#32).setX 7 1#32) (fun t => t.getX 5 == 0#32) = true := by
  decide +kernel

theorem test_sra : runs 32 0x407352b3 ((base.setX 6 0x80000000#32).setX 7 0x3f#32) (fun t => t.getX 5 == 0xffffffff#32) = true := by
  decide +kernel

/-! #### Multiply and divide -/

theorem test_mul : runs 32 0x027302b3 ((base.setX 6 0x12345678#32).setX 7 0x9abcdef0#32) (fun t => t.getX 5 == 0x242d2080#32) = true := by
  decide +kernel

theorem test_mulh : runs 32 0x027312b3 ((base.setX 6 0x12345678#32).setX 7 0x9abcdef0#32) (fun t => t.getX 5 == 0xf8cc93d6#32) = true := by
  decide +kernel

theorem test_mulhsu : runs 32 0x027322b3 ((base.setX 6 0xfffffff9#32).setX 7 3#32) (fun t => t.getX 5 == 0xffffffff#32) = true := by
  decide +kernel

theorem test_mulhu : runs 32 0x027332b3 ((base.setX 6 0xfffffff9#32).setX 7 3#32) (fun t => t.getX 5 == 2#32) = true := by
  decide +kernel

theorem test_div_toward_zero : runs 32 0x027342b3 ((base.setX 6 0xfffffff9#32).setX 7 3#32) (fun t => t.getX 5 == 0xfffffffe#32) = true := by
  decide +kernel

theorem test_div_overflow : runs 32 0x0220c1b3 ((base.setX 1 0x80000000#32).setX 2 0xffffffff#32) (fun t => t.getX 3 == 0x80000000#32) = true := by
  decide +kernel

theorem test_divu_by_zero : runs 32 0x027352b3 ((base.setX 6 7#32).setX 7 0#32) (fun t => t.getX 5 == 0xffffffff#32) = true := by
  decide +kernel

theorem test_rem_sign_of_dividend : runs 32 0x027362b3 ((base.setX 6 0xfffffff9#32).setX 7 3#32) (fun t => t.getX 5 == 0xffffffff#32) = true := by
  decide +kernel

theorem test_remu_by_zero : runs 32 0x027372b3 ((base.setX 6 7#32).setX 7 0#32) (fun t => t.getX 5 == 7#32) = true := by
  decide +kernel

/-! #### Control transfer -/

theorem test_jal_backwards : runs 32 0x800000ef { State.reset with pc := 0x200000#32 } (fun t => t.pc == 0x100000#32 && t.getX 1 == 0x00200004#32) = true := by
  decide +kernel

theorem test_jal_target_misaligned : runs 32 0x002000ef { base with cfg := { Config.standard with rv32c := false }, x := base.x.set 1 0x55#32 } (fun t => took (.instructionAddressMisaligned 0x1002#32) t && t.getX 1 == 0x55#32) = true := by
  decide +kernel

theorem test_jalr : runs 32 0x004280e7 (base.setX 5 0x2000#32) (fun t => t.pc == 0x2004#32 && t.getX 1 == 0x1004#32) = true := by
  decide +kernel

theorem test_beq_taken : runs 32 0x00730863 ((base.setX 6 5#32).setX 7 5#32) (fun t => t.pc == 0x1010#32) = true := by
  decide +kernel

theorem test_bge_equal_is_taken : runs 32 0x00735863 ((base.setX 6 5#32).setX 7 5#32) (fun t => t.pc == 0x1010#32) = true := by
  decide +kernel

theorem test_blt_is_signed : runs 32 0x00734863 ((base.setX 6 0xffffffff#32).setX 7 1#32) (fun t => t.pc == 0x1010#32) = true := by
  decide +kernel

theorem test_bltu_is_unsigned : runs 32 0x00736863 ((base.setX 6 0xffffffff#32).setX 7 1#32) (fun t => t.pc == 0x1004#32) = true := by
  decide +kernel

/-! #### Loads, stores and atomic instructions -/

theorem test_lb_sign : runs 32 0x00130283 (m1.setX 6 0x2000#32) (fun t => t.getX 5 == 0xffffffaa#32) = true := by
  decide +kernel

theorem test_lhu_zero : runs 32 0x00235283 (m1.setX 6 0x2000#32) (fun t => t.getX 5 == 0x00008899#32) = true := by
  decide +kernel

theorem test_lw_misaligned : runs 32 0x00012083 ((base.setX 2 0x2001#32).setX 1 0x55#32) (fun t => took (.loadAddressMisaligned 0x2001#32) t && t.bus == [.fetch 0x1000#32, .fetch 0x1002#32] && t.getX 1 == 0x55#32) = true := by
  decide +kernel

theorem test_lw_refused : runs 32 0x00032283 (m1.setX 6 0x8000#32) (fun t => took (.loadAccessFault 0x8000#32) t) = true := by
  decide +kernel

theorem test_sb_low_byte : runs 32 0x00730023 ((m1.setX 6 0x2000#32).setX 7 0xcafef00d#32) (fun t => word t 0x2000#32 == 0x8899aa0d#32) = true := by
  decide +kernel

theorem test_sh_little_endian : runs 32 0x00731123 ((m1.setX 6 0x2000#32).setX 7 0xcafef00d#32) (fun t => word t 0x2000#32 == 0xf00daabb#32) = true := by
  decide +kernel

theorem test_sw_clears_reservation : runs 32 0x00732023 (({ m1 with reservation := some 0x2004#32 }.setX 6 0x2004#32).setX 7 1#32) (fun t => word t 0x2004#32 == 1#32 && t.reservation == none) = true := by
  decide +kernel

theorem test_lr : runs 32 0x100322af (m1.setX 6 0x2004#32) (fun t => t.getX 5 == 0x11223344#32 && t.reservation == some 0x2004#32) = true := by
  decide +kernel

theorem test_sc_with_reservation : runs 32 0x187322af (({ m1 with reservation := some 0x2004#32 }.setX 6 0x2004#32).setX 7 0xabcd#32) (fun t => t.getX 5 == 0#32 && word t 0x2004#32 == 0xabcd#32 && t.reservation == none) = true := by
  decide +kernel

theorem test_sc_without_reservation : runs 32 0x187322af ((m1.setX 6 0x8000#32).setX 7 0xabcd#32) (fun t => t.getX 5 == 1#32 && t.answer == .ok) = true := by
  decide +kernel

theorem test_amoadd_rd_is_rs1 : runs 32 0x0073232f ((m1.setX 6 0x2004#32).setX 7 1#32) (fun t => t.getX 6 == 0x11223344#32 && word t 0x2004#32 == 0x11223345#32) = true := by
  decide +kernel

theorem test_amomin : runs 32 0x807322af ((m1.setX 6 0x2000#32).setX 7 0x7fffffff#32) (fun t => t.getX 5 == 0x8899aabb#32 && word t 0x2000#32 == 0x8899aabb#32) = true := by
  decide +kernel

theorem test_amomaxu : runs 32 0xe07322af ((m1.setX 6 0x2004#32).setX 7 0xffffffff#32) (fun t => word t 0x2004#32 == 0xffffffff#32) = true := by
  decide +kernel

theorem test_amoswap_misaligned : runs 32 0x087322af ((m1.setX 6 0x2001#32).setX 7 1#32) (fun t => took (.illegalInstruction 0x087322af#32) t) = true := by
  decide +kernel

/-! #### System and CSR -/

theorem test_fence_tso : runs 32 0x8330000f base (fun t => t.pc == 0x1004#32 && t.answer == .ok) = true := by
  decide +kernel

theorem test_wfi : runs 32 0x10500073 base (fun t => t.pc == 0x1004#32 && t.clock == 1#64) = true := by
  decide +kernel

theorem test_ecall : runs 32 0x00000073 base (fun t => took .environmentCall t && t.mcause == 11#32 && t.clock == 0#64) = true := by
  decide +kernel

theorem test_ebreak : runs 32 0x00100073 base (fun t => took .breakpoint t && t.mcause == 3#32) = true := by
  decide +kernel

theorem test_mret_is_illegal : runs 32 0x30200073 base (fun t => took (.illegalInstruction 0x30200073#32) t) = true := by
  decide +kernel

theorem test_csrrw_fflags : runs 32 0x001312f3 { base.setX 6 0xff#32 with fcsr := 0xa1#8 } (fun t => t.getX 5 == 1#32 && t.fcsr == 0xbf#8) = true := by
  decide +kernel

theorem test_csrrs_cycleh : runs 32 0xc80022f3 { base with clock := 0x100000007#64 } (fun t => t.getX 5 == 1#32 && t.clock == 0x100000008#64) = true := by
  decide +kernel

theorem test_csrrs_read_only : runs 32 0xc00322f3 base (fun t => took (.illegalInstruction 0xc00322f3#32) t) = true := by
  decide +kernel

theorem test_csrrc : runs 32 0x003332f3 { base.setX 6 0x1f#32 with fcsr := 0xff#8 } (fun t => t.getX 5 == 0xff#32 && t.fcsr == 0xe0#8) = true := by
  decide +kernel

theorem test_csrrwi_frm : runs 32 0x0023d2f3 { base with fcsr := 0x21#8 } (fun t => t.getX 5 == 1#32 && t.fcsr == 0xe1#8) = true := by
  decide +kernel

theorem test_csrrsi_no_write : runs 32 0xc00062f3 { base with clock := 7#64 } (fun t => t.getX 5 == 7#32) = true := by
  decide +kernel

theorem test_csrrci : runs 32 0x0030f2f3 { base with fcsr := 0xff#8 } (fun t => t.getX 5 == 0xff#32 && t.fcsr == 0xfe#8) = true := by
  decide +kernel

/-! #### Single precision -/

theorem test_fadd_s_dynamic_rup : runs 32 0x003170d3 { ((base.setF 2 0xffffffff3f800000#64).setF 3 0xffffffff33800000#64) with fcsr := 0x60#8 } (fun t => t.getF 1 == 0xffffffff3f800001#64 && t.fcsr == 0x61#8) = true := by
  decide +kernel

theorem test_fadd_s_unboxed : runs 32 0x003100d3 ((base.setF 2 0x000000003f800000#64).setF 3 0xffffffff3f800000#64) (fun t => t.getF 1 == 0xffffffff7fc00000#64 && t.fcsr == 0#8) = true := by
  decide +kernel

theorem test_fadd_s_reserved_rm : runs 32 0x003150d3 ((base.setF 2 0xffffffff3f800000#64).setF 3 0xffffffff40000000#64) (fun t => took (.illegalInstruction 0x003150d3#32) t) = true := by
  decide +kernel

theorem test_fdiv_s_by_zero : runs 32 0x183170d3 ((base.setF 2 0xffffffff3f800000#64).setF 3 0xffffffff00000000#64) (fun t => t.getF 1 == 0xffffffff7f800000#64 && t.fcsr == 0x08#8) = true := by
  decide +kernel

theorem test_fclass_s : runs 32 0xe00112d3 (base.setF 2 0xffffffff7f800001#64) (fun t => t.getX 5 == 0x100#32) = true := by
  decide +kernel

theorem test_fcvt_s_w : runs 32 0xd00310d3 (base.setX 6 0x7fffffff#32) (fun t => t.getF 1 == 0xffffffff4effffff#64 && t.fcsr == 0x01#8) = true := by
  decide +kernel

theorem test_fcvt_s_wu : runs 32 0xd01300d3 (base.setX 6 0xffffffff#32) (fun t => t.getF 1 == 0xffffffff4f800000#64 && t.fcsr == 0x01#8) = true := by
  decide +kernel

theorem test_fmv_w_x : runs 32 0xf00300d3 (base.setX 6 0x7f800001#32) (fun t => t.getF 1 == 0xffffffff7f800001#64 && t.fcsr == 0#8) = true := by
  decide +kernel

theorem test_fle_s_zeros : runs 32 0xa03102d3 ((base.setF 2 0xffffffff80000000#64).setF 3 0xffffffff00000000#64) (fun t => t.getX 5 == 1#32) = true := by
  decide +kernel

theorem test_fsw_no_box_check : runs 32 0x00232427 ((m1.setX 6 0x2000#32).setF 2 0x123456789abcdef0#64) (fun t => word t 0x2008#32 == 0x9abcdef0#32) = true := by
  decide +kernel

theorem test_flw_boxes : runs 32 0x00432087 ((put 0x2004#32 0x7f800001#32 base).setX 6 0x2000#32) (fun t => t.getF 1 == 0xffffffff7f800001#64) = true := by
  decide +kernel

/-! #### Double precision -/

theorem test_fld : runs 32 0x00833087 ((put 0x200c#32 0x11223344#32 (put 0x2008#32 0x55667788#32 base)).setX 6 0x2000#32) (fun t => t.getF 1 == 0x1122334455667788#64) = true := by
  decide +kernel

theorem test_fsd_clears_overlapping_reservation : runs 32 0x00233827 { (base.setX 6 0x2000#32).setF 2 0x0123456789abcdef#64 with reservation := some 0x2014#32 } (fun t => word t 0x2010#32 == 0x89abcdef#32 && word t 0x2014#32 == 0x01234567#32 && t.reservation == none) = true := by
  decide +kernel

theorem test_fadd_d_rup : runs 32 0x023130d3 ((base.setF 2 0x3ff0000000000000#64).setF 3 0x3ca0000000000000#64) (fun t => t.getF 1 == 0x3ff0000000000001#64 && t.fcsr == 0x01#8) = true := by
  decide +kernel

theorem test_fsub_d_cancel_rdn : runs 32 0x0a3120d3 ((base.setF 2 0x3ff0000000000000#64).setF 3 0x3ff0000000000000#64) (fun t => t.getF 1 == 0x8000000000000000#64) = true := by
  decide +kernel

theorem test_fmul_d_overflow : runs 32 0x123100d3 ((base.setF 2 0x7fefffffffffffff#64).setF 3 0x4000000000000000#64) (fun t => t.getF 1 == 0x7ff0000000000000#64 && t.fcsr == 0x05#8) = true := by
  decide +kernel

theorem test_fdiv_d : runs 32 0x1a3100d3 ((base.setF 2 0x3ff0000000000000#64).setF 3 0x4008000000000000#64) (fun t => t.getF 1 == 0x3fd5555555555555#64 && t.fcsr == 0x01#8) = true := by
  decide +kernel

theorem test_fsqrt_d : runs 32 0x5a0100d3 (base.setF 2 0x4000000000000000#64) (fun t => t.getF 1 == 0x3ff6a09e667f3bcd#64 && t.fcsr == 0x01#8) = true := by
  decide +kernel

theorem test_fmadd_d_rounds_once : runs 32 0x223100c3 (((base.setF 2 0x3ff0000000000001#64).setF 3 0x3ff0000000000001#64).setF 4 0xbff0000000000002#64) (fun t => t.getF 1 == 0x3970000000000000#64 && t.fcsr == 0#8) = true := by
  decide +kernel

theorem test_fnmsub_d : runs 32 0x223100cb (((base.setF 2 0x4000000000000000#64).setF 3 0x4008000000000000#64).setF 4 0x4010000000000000#64) (fun t => t.getF 1 == 0xc000000000000000#64) = true := by
  decide +kernel

theorem test_fnmadd_d : runs 32 0x223100cf (((base.setF 2 0x4000000000000000#64).setF 3 0x4008000000000000#64).setF 4 0x4010000000000000#64) (fun t => t.getF 1 == 0xc024000000000000#64) = true := by
  decide +kernel

theorem test_fsgnjx_d : runs 32 0x223120d3 ((base.setF 2 0xbff0000000000000#64).setF 3 0xbff0000000000000#64) (fun t => t.getF 1 == 0x3ff0000000000000#64) = true := by
  decide +kernel

theorem test_fmin_d_zeros : runs 32 0x2a3100d3 ((base.setF 2 0#64).setF 3 0x8000000000000000#64) (fun t => t.getF 1 == 0x8000000000000000#64) = true := by
  decide +kernel

theorem test_fmax_d_signaling : runs 32 0x2a3110d3 ((base.setF 2 0x7ff0000000000001#64).setF 3 0x7ff0000000000001#64) (fun t => t.getF 1 == 0x7ff8000000000000#64 && t.fcsr == 0x10#8) = true := by
  decide +kernel

theorem test_fcvt_s_d_underflow : runs 32 0x401100d3 (base.setF 2 0x01a56e1fc2f8f359#64) (fun t => t.getF 1 == 0xffffffff00000000#64 && t.fcsr == 0x03#8) = true := by
  decide +kernel

theorem test_fcvt_d_s_subnormal : runs 32 0x420100d3 (base.setF 2 0xffffffff00000001#64) (fun t => t.getF 1 == 0x36a0000000000000#64) = true := by
  decide +kernel

theorem test_feq_d_quiet : runs 32 0xa23122d3 (((base.setX 5 7#32).setF 2 0x7ff8000000000000#64).setF 3 0x3ff0000000000000#64) (fun t => t.getX 5 == 0#32 && t.fcsr == 0#8) = true := by
  decide +kernel

theorem test_flt_d_quiet_is_invalid : runs 32 0xa23112d3 (((base.setX 5 7#32).setF 2 0x7ff8000000000000#64).setF 3 0x4000000000000000#64) (fun t => t.getX 5 == 0#32 && t.fcsr == 0x10#8) = true := by
  decide +kernel

theorem test_fcvt_w_d_saturates : runs 32 0xc20102d3 (base.setF 2 0xc202a05f20000000#64) (fun t => t.getX 5 == 0x80000000#32 && t.fcsr == 0x10#8) = true := by
  decide +kernel

theorem test_fcvt_wu_d_toward_zero : runs 32 0xc21112d3 ((base.setX 5 7#32).setF 2 0xbfeccccccccccccd#64) (fun t => t.getX 5 == 0#32 && t.fcsr == 0x01#8) = true := by
  decide +kernel

/-! #### Compressed -/

theorem test_c_addi4spn : runs 16 0x1ffc (base.setX 2 0x2000#32) (fun t => t.getX 15 == 0x23fc#32 && t.pc == 0x1002#32) = true := by
  decide +kernel

theorem test_c_lw : runs 16 0x40c0 (m1.setX 9 0x2000#32) (fun t => t.getX 8 == 0x11223344#32) = true := by
  decide +kernel

theorem test_c_nop_with_immediate : runs 16 0x0005 base (fun t => t.pc == 0x1002#32 && t.answer == .ok) = true := by
  decide +kernel

theorem test_c_addi : runs 16 0x0085 base (fun t => t.getX 1 == 1#32 && t.pc == 0x1002#32) = true := by
  decide +kernel

theorem test_c_jal : runs 16 0x3001 base (fun t => t.getX 1 == 0x1002#32 && t.pc == 0x800#32) = true := by
  decide +kernel

theorem test_c_addi16sp : runs 16 0x7101 (base.setX 2 0x2000#32) (fun t => t.getX 2 == 0x1e00#32) = true := by
  decide +kernel

theorem test_c_lui : runs 16 0x7401 base (fun t => t.getX 8 == 0xfffe0000#32) = true := by
  decide +kernel

theorem test_c_srai : runs 16 0x8411 (base.setX 8 0x80000010#32) (fun t => t.getX 8 == 0xf8000001#32) = true := by
  decide +kernel

theorem test_c_sub : runs 16 0x8c05 ((base.setX 8 5#32).setX 9 7#32) (fun t => t.getX 8 == 0xfffffffe#32) = true := by
  decide +kernel

theorem test_c_j : runs 16 0xbff5 base (fun t => t.pc == 0xffc#32) = true := by
  decide +kernel

theorem test_c_beqz : runs 16 0xd001 base (fun t => t.pc == 0xf00#32) = true := by
  decide +kernel

theorem test_c_bnez_not_taken : runs 16 0xe801 base (fun t => t.pc == 0x1002#32) = true := by
  decide +kernel

theorem test_c_lwsp : runs 16 0x52fe (m1.setX 2 0x1f08#32) (fun t => t.getX 5 == 0x11223344#32) = true := by
  decide +kernel

theorem test_c_jr_clears_bit_zero : runs 16 0x8282 (base.setX 5 0x2003#32) (fun t => t.pc == 0x2002#32) = true := by
  decide +kernel

theorem test_c_jalr_link_is_source : runs 16 0x9082 (base.setX 1 0x2000#32) (fun t => t.getX 1 == 0x1002#32 && t.pc == 0x2000#32) = true := by
  decide +kernel

theorem test_c_mv : runs 16 0x829a (base.setX 6 0x1234#32) (fun t => t.getX 5 == 0x1234#32) = true := by
  decide +kernel

theorem test_c_ebreak : runs 16 0x9002 base (fun t => took .breakpoint t) = true := by
  decide +kernel

theorem test_c_swsp : runs 16 0xc41a ((m1.setX 2 0x2000#32).setX 6 0xcafef00d#32) (fun t => word t 0x2008#32 == 0xcafef00d#32) = true := by
  decide +kernel

theorem test_c_lwsp_x0_is_reserved : runs 16 0x4012 (m1.setX 2 0x2000#32) (fun t => took (.illegalInstruction 0x4012#32) t) = true := by
  decide +kernel

/-! #### Fetching -/

theorem test_fetch_across_the_top : runs 32 0x00700093 { State.reset with pc := 0xfffffffe#32 } (fun t => t.getX 1 == 7#32 && t.pc == 2#32) = true := by
  decide +kernel

theorem test_all_zeros_is_illegal : runs 32 0 base (fun t => took (.illegalInstruction 0#32) t && t.bus == [.fetch 0x1000#32]) = true := by
  decide +kernel

theorem test_rv32c_off : runs 32 0x00000085 { base with cfg := { Config.standard with rv32c := false } } (fun t => took (.illegalInstruction 0x85#32) t) = true := by
  decide +kernel

/-! ### For every statement with hypotheses, states and operands that meet them

One theorem a statement; where it has several clauses, one part a clause, in the statement's order. -/

/-- The answer of an outcome that is a next state. -/
def answerOf (r : Result) : Option Answer :=
  match r with
  | .next t => some t.answer
  | _ => none

theorem next_of_answerOf {r : Result} {a : Answer} (h : answerOf r = some a) : ∃ t, r = .next t ∧ t.answer = a := by
  unfold answerOf at h
  split at h
  · exact ⟨_, rfl, Option.some.inj h⟩
  · cases h

def noC : Config := { Config.standard with rv32c := false }
def noFd : Config := { Config.standard with rv32fd := false }

/-- A state whose Clock the host may write. -/
def writable : State := { m1 with cfg := { Config.standard with clockHostWritable := true } }

/-- A word, or a halfword, stored at the `pc` of `base`. -/
def code32 (w : Word) : State := { base with mem := writeBytes 4 base.mem base.pc w }
def code16 (h : Half) : State := { base with mem := writeBytes 2 base.mem base.pc h }

theorem witness_DecodeEncode :
    ((Instr.cLui 3 0x3f000#18).wellFormed = true ∧ (Instr.cLui 3 0x3f000#18).enabled Config.standard = true) ∧
    ((Instr.jal 31 0x100000#21).wellFormed = true ∧ (Instr.jal 31 0x100000#21).enabled noFd = true) := by decide +kernel

theorem witness_EncodeDecode :
    decode noFd (.word 0b1110011_00000_01111_010_11111_0101111#32) = .ok (.amomaxuW 31 15 0 true true) ∧
    decode Config.standard (.half 0xfffe#16) = .ok (.cFswsp 31 252#8) := by decide +kernel

theorem witness_DisabledExtensionIsIllegal :
    ((Instr.faddS 1 2 3 7#3).wellFormed = true ∧ (Instr.faddS 1 2 3 7#3).enabled noFd = false) ∧
    ((Instr.cFld 0 0 8#8).wellFormed = true ∧ (Instr.cFld 0 0 8#8).enabled noC = false) ∧
    (decode noC (.word 0x003170d3#32) = .ok (.faddS 1 2 3 7#3) ∧ (Instr.faddS 1 2 3 7#3).cond = .rv32fd) ∧
    (decode Config.standard (.half 0x2480#16) = .ok (.cFld 0 1 8#8) ∧ (Instr.cFld 0 1 8#8).cond = .rv32cAndFd) ∧
    (decode noFd (.half 0x0085#16) = .ok (.cAddi 1 1#6) ∧ (Instr.cAddi 1 1#6).cond = .rv32c) := by decide +kernel

/-- A 32-bit instruction at `0xfffffffe`, across the top of the address space. -/
def atTop : State :=
  { State.reset with pc := 0xfffffffe#32, mem := writeBytes 4 [] 0xfffffffe#32 0x00700093#32 }

theorem witness_Holds_word : Holds atTop (.word 0x00700093#32) :=
  ⟨by decide +kernel, fun w h => (by cases h; decide +kernel), by decide +kernel⟩

theorem witness_Holds_half : Holds (code16 0x0085#16) (.half 0x0085#16) :=
  ⟨by decide +kernel, fun _ h => (nomatch h), by decide +kernel⟩

theorem witness_StepRunsDecoded :
    (aligned atTop.pc atTop.cfg.ialign = true ∧ decode atTop.cfg (.word 0x00700093#32) = .ok (.addi 1 0 7#12)) ∧
    (aligned base.pc base.cfg.ialign = true ∧ decode base.cfg (.half 0x0085#16) = .ok (.cAddi 1 1#6)) := by
  decide +kernel

theorem witness_IllegalBitsTrap :
    ∃ s c e, aligned s.pc s.cfg.ialign = true ∧ Holds s c ∧ (∀ h, c = .half h → isCompressed s.cfg h = true) ∧
      (∀ w, c = .word w → isCompressed s.cfg (w.extractLsb' 0 16) = false) ∧ decode s.cfg c = .error e :=
  ⟨code32 0xffffffff#32, .word 0xffffffff#32, .reserved 0xffffffff#32, by decide +kernel,
    ⟨by decide +kernel, fun w h => (by cases h; decide +kernel), by decide +kernel⟩, fun _ h => (nomatch h),
    fun w h => (by cases h; decide +kernel), by decide +kernel⟩

/-- One word of each named family. -/
theorem witness_IllegalBitsTrap_named :
    ((0x02001013#32).extractLsb' 0 7 = 0x13#7 ∧ (0x02001013#32).extractLsb' 12 3 = 1#3 ∧ (0x02001013#32).getLsbD 25 = true) ∧
    ((0x007332af#32).extractLsb' 0 7 = 0x2f#7 ∧ (0x007332af#32).extractLsb' 12 3 = 3#3) ∧
    (0x0000001b#32).extractLsb' 0 7 = 0x1b#7 ∧ (0x0000003b#32).extractLsb' 0 7 = 0x3b#7 ∧
    ((0x00006003#32).extractLsb' 0 7 = 0x03#7 ∧ (0x00006003#32).extractLsb' 12 3 = 6#3) ∧
    ((0x00003023#32).extractLsb' 0 7 = 0x23#7 ∧ (0x00003023#32).extractLsb' 12 3 = 3#3) := by decide +kernel

theorem witness_IllegalBitsTrap_extensionOff :
    ∃ s c e, aligned s.pc s.cfg.ialign = true ∧ Holds s c ∧ (∀ h, c = .half h → isCompressed s.cfg h = true) ∧
      (∀ w, c = .word w → isCompressed s.cfg (w.extractLsb' 0 16) = false) ∧ decode s.cfg c = .error e :=
  ⟨{ code16 0x2480#16 with cfg := noFd }, .half 0x2480#16, .extensionOff 0x2480#32, by decide +kernel,
    ⟨by decide +kernel, fun _ h => (nomatch h), by decide +kernel⟩, fun w h => (by cases h; decide +kernel),
    fun _ h => (nomatch h), by decide +kernel⟩

/-- Only the first halfword of the instruction may be fetched. -/
def halfMapped : State :=
  { code32 0x00700093#32 with map := [⟨0x1000#32, 2, true, false, false⟩] }

theorem witness_FetchTraps :
    aligned 0x1002#32 noC.ialign = false ∧
    (aligned base.pc base.cfg.ialign = true ∧ accepts [] .fetch base.pc 2 = false) ∧
    (aligned halfMapped.pc halfMapped.cfg.ialign = true ∧ accepts halfMapped.map .fetch halfMapped.pc 2 = true ∧
      (halfMapped.cfg.rv32c = true → (halfMapped.byteAt halfMapped.pc).extractLsb' 0 2 = 0b11#2) ∧
      accepts halfMapped.map .fetch (halfMapped.pc + 2#32) 2 = false) := by decide +kernel

theorem witness_ResetMeetsInvariant : aligned Config.standard.resetPc Config.standard.ialign = true ∧
    aligned { noC with resetPc := 0xfffffffc#32 }.resetPc noC.ialign = true := by decide +kernel

theorem witness_Inv_code : Inv (code32 0x00700093#32) :=
  ⟨by decide +kernel, by decide +kernel, by decide +kernel, fun _ h => (nomatch h), by decide +kernel⟩

theorem witness_StepKeepsInvariant :
    Inv (code32 0x00700093#32) ∧ ∃ t, step (code32 0x00700093#32) = .next t ∧ t.answer = .ok :=
  ⟨witness_Inv_code, next_of_answerOf (by decide +kernel)⟩

/-- Both with the host's writes of Clock off and on. -/
theorem witness_HostKeepsMemoryAndX0 :
    (Memory.wf m1.mem = true ∧ m1.x.get 0 = 0#32 ∧ m1.cfg.clockHostWritable = false) ∧
    (Memory.wf writable.mem = true ∧ writable.x.get 0 = 0#32 ∧ writable.cfg.clockHostWritable = true) := by
  decide +kernel

theorem witness_TrapsChangeOnlyTrapRegisters :
    ∃ t, step (code32 0x00000073#32) = .next t ∧ t.answer = .err .environmentCall :=
  next_of_answerOf (by decide +kernel)

theorem witness_ClockCountsCommittedSteps :
    (∃ t, step (code32 0x00700093#32) = .next t ∧ t.answer = .ok) ∧
    ∃ t, step (code32 0x00000073#32) = .next t ∧ t.answer = .err .environmentCall :=
  ⟨next_of_answerOf (by decide +kernel), next_of_answerOf (by decide +kernel)⟩

theorem witness_PcAdvances :
    (∃ t, exec (.beq 0 0 16#13) base = .next t ∧ t.answer = .ok) ∧
    (∃ t, exec (.cBeqz 0 254#9) (base.setX 8 1#32) = .next t ∧ t.answer = .ok) ∧
    (∃ t, exec (.lw 1 0 1#12) base = .next t ∧ t.answer = .err (.loadAddressMisaligned 1#32)) ∧
    takenTarget base (.beq 0 0 16#13) = some 0x1010#32 ∧ takenTarget (base.setX 8 1#32) (.cBeqz 0 254#9) = none :=
  ⟨next_of_answerOf (by decide +kernel), next_of_answerOf (by decide +kernel), next_of_answerOf (by decide +kernel),
    by decide +kernel, by decide +kernel⟩

theorem witness_FlagsAreSticky :
    isCsr (.fdivS 1 2 3 0#3) = false ∧ ∃ t, exec (.fdivS 1 2 3 0#3) { base with fcsr := 0xf0#8 } = .next t ∧ t.answer = .ok :=
  ⟨by decide, next_of_answerOf (by decide +kernel)⟩

theorem witness_OnlyStoresChangeMemory :
    mayStore (.lrW 1 0 true true) = false ∧ ∃ t, exec (.lrW 1 2 true true) (m1.setX 2 0x2000#32) = .next t ∧ t.answer = .ok :=
  ⟨by decide, next_of_answerOf (by decide +kernel)⟩

theorem witness_ReservationRule :
    (∃ t, exec (.lrW 1 2 false false) (m1.setX 2 0x2000#32) = .next t ∧ t.answer = .ok) ∧
    (mayStore (.lw 1 2 0#12) = false ∧ ∃ t, exec (.lw 1 2 0#12) (m1.setX 2 0x2000#32) = .next t ∧ t.answer = .ok) ∧
    (∃ t, exec (.sw 0 0 0#12) base = .next t ∧ t.answer = .err (.storeAccessFault 0#32)) ∧
    (0xfffffffd#32 + BitVec.ofNat 32 3 = 0#32 + BitVec.ofNat 32 0) ∧
    (∀ i : Fin 8, ∀ j : Fin 4, 0x2018#32 + BitVec.ofNat 32 i ≠ 0x2014#32 + BitVec.ofNat 32 j) :=
  ⟨next_of_answerOf (by decide +kernel), ⟨by decide, next_of_answerOf (by decide +kernel)⟩,
    next_of_answerOf (by decide +kernel), by decide, by decide +kernel⟩

theorem witness_WithoutFpNothingTouchesFp :
    noFd.rv32fd = false ∧ ∃ t, step { code32 0x00700093#32 with cfg := noFd, fcsr := 0xff#8 } = .next t ∧ t.answer = .ok :=
  ⟨by decide, next_of_answerOf (by decide +kernel)⟩

theorem witness_ResumePastSkipsTheInstruction :
    Holds (code16 0x9002#16) (.half 0x9002#16) ∧ isCompressed base.cfg 0x9002#16 = true ∧
    (∃ t, step (code16 0x9002#16) = .next t ∧ t.answer = .err .breakpoint) ∧
    Holds (code32 0x00000073#32) (.word 0x00000073#32) ∧ isCompressed base.cfg 0x0073#16 = false ∧
    ∃ t, step (code32 0x00000073#32) = .next t ∧ t.answer = .err .environmentCall :=
  ⟨⟨by decide +kernel, fun _ h => (nomatch h), by decide +kernel⟩, by decide +kernel, next_of_answerOf (by decide +kernel),
    ⟨by decide +kernel, fun w h => (by cases h; decide +kernel), by decide +kernel⟩, by decide +kernel,
    next_of_answerOf (by decide +kernel)⟩

/-- Eight bytes that wrap past the top of the address space. -/
theorem witness_MemoryIsLittleEndian :
    Memory.wf m1.mem = true ∧ 8 ≤ 8 ∧ ∀ i : Fin 8, 0x2000#32 ≠ 0xfffffffc#32 + BitVec.ofNat 32 i := by decide +kernel

theorem witness_NaNBoxing :
    (1 : FReg) ≠ 0 ∧ 0xffffffff3f800000#64 >>> 32 = 0xffffffff#64 ∧ 0xfffffffe3f800000#64 >>> 32 ≠ 0xffffffff#64 := by
  decide

theorem witness_Divide :
    base.getX 7 = 0#32 ∧
    ((base.setX 6 0x80000000#32).getX 6 = 0x80000000#32 ∧ (base.setX 7 0xffffffff#32).getX 7 = 0xffffffff#32) ∧
    ((base.setX 7 0xffffffff#32).getX 7 ≠ 0#32 ∧
      ¬((base.setX 7 0xffffffff#32).getX 6 = 0x80000000#32 ∧ (base.setX 7 0xffffffff#32).getX 7 = 0xffffffff#32)) := by
  decide +kernel

theorem witness_JumpResults :
    aligned (base.pc + (0x100000#21).signExtend 32) base.cfg.ialign = true ∧
    aligned (base.pc + (2#21).signExtend 32) noC.ialign = false := by decide +kernel

theorem witness_BranchResults :
    ¬((base.setX 6 1#32).getX 6 = base.getX 7) ∧
    (base.getX 6 = base.getX 7 ∧ aligned (base.pc + (0x1000#13).signExtend 32) base.cfg.ialign = true) ∧
    (base.getX 6 = base.getX 7 ∧ aligned (base.pc + (2#13).signExtend 32) noC.ialign = false) := by decide +kernel

theorem witness_NoTargetTrapsWithC :
    base.cfg.rv32c = true ∧ aligned base.pc 2 = true ∧ (Instr.cJ 0x802#12).wellFormed = true ∧
    takenTarget base (.cJ 0x802#12) = some 0x802#32 := by decide +kernel

theorem witness_LoadResults :
    (aligned 0x203c#32 4 = true ∧ accepts base.map .load 0x203c#32 4 = true) ∧
    (aligned 0x2040#32 4 = true ∧ accepts base.map .load 0x2040#32 4 = false) ∧
    aligned 0x203e#32 4 = false := by decide +kernel

theorem witness_StoreResults :
    Memory.wf m1.mem = true ∧
    (aligned 0x203e#32 2 = true ∧ accepts m1.map .store 0x203e#32 2 = true) ∧
    (aligned 0x1ffe#32 2 = true ∧ accepts m1.map .store 0x1ffe#32 2 = false) ∧
    aligned 0x203f#32 2 = false := by decide +kernel

theorem witness_LoadReservedStoreConditional :
    Memory.wf m1.mem = true ∧ aligned ((m1.setX 2 0x2004#32).getX 2) 4 = true ∧
    accepts m1.map .load 0x2004#32 4 = true ∧ accepts m1.map .load 0x2040#32 4 = false ∧
    (({ m1 with reservation := some 0x2004#32 } : State).reservation = some 0x2004#32 ∧
      accepts m1.map .store 0x2004#32 4 = true) ∧
    (({ m1 with reservation := some 0x2040#32 } : State).reservation = some 0x2040#32 ∧
      accepts m1.map .store 0x2040#32 4 = false) ∧
    m1.reservation ≠ some 0x2004#32 := by decide +kernel

/-- A word that may be loaded and not stored. -/
theorem witness_AmoResults :
    Memory.wf m1.mem = true ∧ aligned ((m1.setX 2 0x203c#32).getX 2) 4 = true ∧
    (accepts m1.map .load 0x203c#32 4 = true ∧ accepts m1.map .store 0x203c#32 4 = true) ∧
    accepts m1.map .load 0x2040#32 4 = false ∧
    (accepts [⟨0x2000#32, 4, false, true, false⟩] .load 0x2000#32 4 = true ∧
      accepts [⟨0x2000#32, 4, false, true, false⟩] .store 0x2000#32 4 = false) := by decide +kernel

theorem witness_MisalignedAtomicsAreIllegal : aligned ((base.setX 2 0x2002#32).getX 2) 4 = false := by decide +kernel

theorem witness_CsrInstructions :
    (csrValue base 0x003#12 = some 0#32 ∧ (0x003#12).extractLsb' 10 2 ≠ 0b11#2) ∧
    (csrValue base 0xc82#12 = some 0#32 ∧ ¬((0 : Reg) ≠ 0)) ∧
    csrValue base 0xc03#12 = none ∧ csrValue { base with cfg := noFd } 0x003#12 = none ∧
    (0xc00#12).extractLsb' 10 2 = 0b11#2 := by decide +kernel

theorem witness_FpLoadsAndStores :
    Memory.wf m1.mem = true ∧
    (aligned 0x2038#32 8 = true ∧ accepts m1.map .load 0x2038#32 8 = true ∧ accepts m1.map .store 0x2038#32 8 = true) ∧
    (aligned 0x2040#32 8 = true ∧ accepts m1.map .load 0x2040#32 8 = false ∧ accepts m1.map .store 0x2040#32 8 = false) ∧
    aligned 0x203c#32 8 = false := by decide +kernel

/-- For SingleArithmetic, DoubleArithmetic and FpConversions: a static mode, and the dynamic one. -/
theorem witness_resolveRm_some :
    resolveRm 4#3 { base with fcsr := 0xff#8 } = some .rmm ∧ resolveRm 7#3 { base with fcsr := 0x60#8 } = some .rup := by
  decide +kernel

theorem witness_RoundingModeResolution :
    resolveRm 5#3 base = none ∧ resolveRm 6#3 base = none ∧ resolveRm 7#3 { base with fcsr := 0xa0#8 } = none := by
  decide +kernel

/-- For CompressedInteger, CompressedLoadsAndStores and CompressedControl: the two ends of the three-bit fields. -/
theorem witness_compressed_registers :
    Memory.wf m1.mem = true ∧ (8 : Reg).val = 8 + (0 : CReg).val ∧ (15 : Reg).val = 8 + (7 : CReg).val := by
  decide +kernel

/-- Targets of the trap clauses: RV32C off, then an odd offset; and of the others, at both ends of the offsets. -/
theorem witness_CompressedControl :
    aligned (base.pc + (2#12).signExtend 32) noC.ialign = false ∧
    aligned ((base.setX 1 0x2003#32).getX 1 &&& 0xfffffffe#32) noC.ialign = false ∧
    (base.getX 8 = 0#32 ∧ aligned (base.pc + (2#9).signExtend 32) noC.ialign = false) ∧
    aligned (base.pc + (1#12).signExtend 32) base.cfg.ialign = false ∧
    aligned (base.pc + (0x800#12).signExtend 32) base.cfg.ialign = true ∧
    (base.getX 8 = 0#32 ∧ aligned (base.pc + (0x0fe#9).signExtend 32) base.cfg.ialign = true) ∧
    (base.setX 15 1#32).getX 15 ≠ 0#32 := by decide +kernel

theorem witness_CompressedRunsAsItsExpansion :
    ((Instr.cLw 0 1 4#7).wellFormed = true ∧ expansion (.cLw 0 1 4#7) = some (.lw 8 9 4#12) ∧
      ∃ t, exec (.lw 8 9 4#12) (base.setX 9 1#32) = .next t ∧ t.answer = .err (.loadAddressMisaligned 5#32)) ∧
    ((Instr.cLui 31 0x20000#18).wellFormed = true ∧ expansion (.cLui 31 0x20000#18) = some (.lui 31 0xfffe0#20) ∧
      takenTarget base (.lui 31 0xfffe0#20) = none ∧ ∃ t, exec (.lui 31 0xfffe0#20) base = .next t ∧ t.answer = .ok) ∧
    ((Instr.cJalr 1).wellFormed = true ∧ expansion (.cJalr 1) = some (.jalr 1 1 0#12) ∧
      takenTarget base (.jalr 1 1 0#12) ≠ none ∧ ∃ t, exec (.jalr 1 1 0#12) base = .next t ∧ t.answer = .ok) :=
  ⟨⟨by decide +kernel, by decide +kernel, next_of_answerOf (by decide +kernel)⟩,
    ⟨by decide +kernel, by decide +kernel, by decide +kernel, next_of_answerOf (by decide +kernel)⟩,
    ⟨by decide +kernel, by decide +kernel, by decide +kernel, next_of_answerOf (by decide +kernel)⟩⟩

/-! #### The kernel; `s` makes a single pattern from its bits -/

def s (v : Word) : BitVec Fmt.single.width := v

theorem witness_RoundPackRule : (1 : Nat) ≠ 0 := by decide

theorem value_one : Kernel.value (s 0x3f800000#32) = 1 := by
  have h : Kernel.sign (s 0x3f800000#32) = false ∧ Kernel.mant (s 0x3f800000#32) = 2 ^ 23 ∧
      Kernel.exponent (s 0x3f800000#32) = -23 := by decide +kernel
  unfold Kernel.value
  rw [h.1, h.2.1, h.2.2]
  norm_num

theorem witness_ArithmeticIsCorrectlyRounded :
    Kernel.isFinite (s 0x3f800000#32) = true ∧ Kernel.isFinite (s 0x7f7fffff#32) = true ∧
    Kernel.value (s 0x3f800000#32) + Kernel.value (s 0x3f800000#32) ≠ 0 ∧
    Kernel.value (s 0x3f800000#32) - Kernel.value (s 0x00000000#32) ≠ 0 ∧
    Kernel.value (s 0x3f800000#32) * Kernel.value (s 0x3f800000#32) ≠ 0 := by
  have h0 : Kernel.value (s 0x00000000#32) = 0 := by
    have h : Kernel.mant (s 0x00000000#32) = 0 := by decide +kernel
    unfold Kernel.value
    rw [h]
    simp
  refine ⟨by decide +kernel, by decide +kernel, ?_, ?_, ?_⟩ <;> rw [value_one] <;> norm_num [h0]

theorem witness_ArithmeticSpecialCases :
    Kernel.isNaN (s 0x7f800001#32) = true ∧
    (Kernel.isNaN (s 0xff800000#32) = false ∧ Kernel.isInf (s 0xff800000#32) = true ∧
      Kernel.isInf (s 0x7f800000#32) = true ∧ Kernel.sign (s 0xff800000#32) ≠ Kernel.sign (s 0x7f800000#32)) ∧
    (Kernel.isInf (s 0x3f800000#32) = false ∧ Kernel.isZero (s 0x3f800000#32) = false) ∧
    (Kernel.isZero (s 0x80000000#32) = true ∧ Kernel.isInf (s 0x80000000#32) = false) ∧
    (Kernel.isFinite (s 0x3f800000#32) = true ∧ s 0xbf800000#32 = Kernel.negate (s 0x3f800000#32)) := by decide +kernel

theorem witness_FusedMultiplyAddRule :
    (Kernel.isInf (s 0x7f800000#32) = true ∧ Kernel.isZero (s 0x00000000#32) = true) ∧
    Kernel.isNaN (s 0x7fc00000#32) = true ∧ Kernel.isNaN (s 0x7f800000#32) = false ∧
    Kernel.isZero (s 0x7f800000#32) = false ∧
    (Kernel.isFinite (s 0x3f800000#32) = true ∧ Kernel.isInf (s 0x3f800000#32) = false) ∧
    Kernel.value (s 0x3f800000#32) * Kernel.value (s 0x3f800000#32) + Kernel.value (s 0x3f800000#32) ≠ 0 ∧
    Kernel.value (s 0x3f800000#32) * Kernel.value (s 0x3f800000#32) + Kernel.value (s 0xbf800000#32) = 0 := by
  have hm : Kernel.value (s 0xbf800000#32) = -1 := by
    have h : Kernel.sign (s 0xbf800000#32) = true ∧ Kernel.mant (s 0xbf800000#32) = 2 ^ 23 ∧
        Kernel.exponent (s 0xbf800000#32) = -23 := by decide +kernel
    unfold Kernel.value
    rw [h.1, h.2.1, h.2.2]
    norm_num
  refine ⟨by decide +kernel, by decide +kernel, by decide +kernel, by decide +kernel, by decide +kernel, ?_, ?_⟩ <;>
    rw [value_one] <;> norm_num [hm]

theorem witness_SquareRootRule :
    Kernel.isNaN (s 0x7fffffff#32) = true ∧ Kernel.isZero (s 0x80000000#32) = true ∧
    (Kernel.isNaN (s 0x80000001#32) = false ∧ Kernel.isZero (s 0x80000001#32) = false ∧
      Kernel.sign (s 0x80000001#32) = true) ∧
    (Kernel.isInf (s 0x7f800000#32) = true ∧ Kernel.sign (s 0x7f800000#32) = false) ∧
    (Kernel.isFinite (s 0x00000001#32) = true ∧ Kernel.isZero (s 0x00000001#32) = false ∧
      Kernel.sign (s 0x00000001#32) = false) := by decide +kernel

/-- The integers `-2^32`, `2^32`, `1` and the value `1/2`, rounded toward zero, in the clauses' ranges for `i32`. -/
theorem witness_IntegerConversionRule :
    Kernel.isNaN (s 0x7fc00000#32) = true ∧ Kernel.isInf (s 0xff800000#32) = true ∧
    (Kernel.isFinite (s 0xcf800000#32) = true ∧ Kernel.sign (s 0xcf800000#32) = true ∧
      -Kernel.RInt .rtz true |((Kernel.value (s 0xcf800000#32) : ℚ) : ℝ)| < -2 ^ 31) ∧
    (Kernel.isFinite (s 0x4f800000#32) = true ∧ Kernel.sign (s 0x4f800000#32) = false ∧
      2 ^ 31 - 1 < Kernel.RInt .rtz false |((Kernel.value (s 0x4f800000#32) : ℚ) : ℝ)|) ∧
    (Kernel.RInt .rtz false |((Kernel.value (s 0x3f800000#32) : ℚ) : ℝ)| = 1 ∧
      ((Kernel.value (s 0x3f800000#32) : ℚ) : ℝ) = 1) ∧
    (Kernel.RInt .rtz false |((Kernel.value (s 0x3f000000#32) : ℚ) : ℝ)| = 0 ∧
      ((Kernel.value (s 0x3f000000#32) : ℚ) : ℝ) ≠ 0) ∧
    (0#32).toInt = 0 ∧ (0x80000000#32).toInt ≠ 0 := by
  have hr : ∀ (b : Bool) (q : ℝ), Kernel.RInt .rtz b q = ⌊q⌋ := fun b q => by
    unfold Kernel.RInt Kernel.goesUp
    split <;> simp
  have hv : ∀ (x : BitVec Fmt.single.width) (e : Int), Kernel.mant x = 2 ^ 23 → Kernel.exponent x = e - 23 →
      Kernel.value x = (if Kernel.sign x then -1 else 1) * (2 : ℚ) ^ e := fun x e hm he => by
    unfold Kernel.value
    rw [hm, he, zpow_sub₀ (by norm_num)]
    push_cast
    field_simp
  have h1 : Kernel.sign (s 0xcf800000#32) = true ∧ Kernel.sign (s 0x4f800000#32) = false ∧
      Kernel.sign (s 0x3f000000#32) = false := by decide +kernel
  have v1 : Kernel.value (s 0xcf800000#32) = -(2 : ℚ) ^ 32 := by
    rw [hv _ 32 (by decide +kernel) (by decide +kernel), h1.1]; norm_num
  have v2 : Kernel.value (s 0x4f800000#32) = (2 : ℚ) ^ 32 := by
    rw [hv _ 32 (by decide +kernel) (by decide +kernel), h1.2.1]; norm_num
  have v3 : Kernel.value (s 0x3f000000#32) = 1 / 2 := by
    rw [hv _ (-1) (by decide +kernel) (by decide +kernel), h1.2.2]; norm_num
  refine ⟨by decide +kernel, by decide +kernel, ⟨by decide +kernel, h1.1, ?_⟩, ⟨by decide +kernel, h1.2.1, ?_⟩,
    ⟨?_, ?_⟩, ⟨?_, ?_⟩, by decide, by decide⟩
  · rw [hr, v1]; norm_num
  · rw [hr, v2]; norm_num
  · rw [hr, value_one]; norm_num
  · rw [value_one]; norm_num
  · rw [hr, v3]; norm_num
  · rw [v3]; norm_num

theorem witness_FormatConversionRule :
    Kernel.isNaN (s 0xff800001#32) = true ∧ (Kernel.isNaN (s 0x7f800000#32) = false ∧ Kernel.isInf (s 0x7f800000#32) = true) ∧
    (Kernel.isNaN (s 0x00000001#32) = false ∧ Kernel.isInf (s 0x00000001#32) = false) ∧
    Kernel.isNaN (fmt := .double) 0x7ff0000000000001#64 = true ∧ Kernel.isInf (fmt := .double) 0xfff0000000000000#64 = true ∧
    Kernel.isZero (fmt := .double) 0x8000000000000000#64 = true ∧
    (Kernel.isFinite (fmt := .double) 0x7fefffffffffffff#64 = true ∧
      Kernel.isZero (fmt := .double) 0x7fefffffffffffff#64 = false) := by decide +kernel

theorem witness_ComparisonRule :
    Kernel.isNaN (s 0x7f800001#32) = true ∧ Kernel.isNaN (s 0xff800000#32) = false ∧
    Kernel.extendedValue (s 0xff800000#32) < Kernel.extendedValue (s 0x3f800000#32) ∧
    Kernel.extendedValue (s 0x00000000#32) = Kernel.extendedValue (s 0x80000000#32) ∧
    s 0x00000000#32 ≠ s 0x80000000#32 := by
  have h : Kernel.isInf (s 0xff800000#32) = true ∧ Kernel.sign (s 0xff800000#32) = true ∧
      Kernel.isInf (s 0x3f800000#32) = false ∧ Kernel.isInf (s 0x00000000#32) = false ∧
      Kernel.isInf (s 0x80000000#32) = false ∧ Kernel.mant (s 0x00000000#32) = 0 ∧ Kernel.mant (s 0x80000000#32) = 0 := by
    decide +kernel
  refine ⟨by decide +kernel, by decide +kernel, ?_, ?_, by decide +kernel⟩
  · unfold Kernel.extendedValue
    rw [if_pos h.1, if_pos h.2.1, if_neg (by rw [h.2.2.1]; decide)]
    exact WithBot.bot_lt_coe _
  · unfold Kernel.extendedValue
    simp [h.2.2.2.1, h.2.2.2.2.1, Kernel.value, h.2.2.2.2.2.1, h.2.2.2.2.2.2]

/-- One pattern for each of the ten classes. -/
theorem witness_ClassifyRule :
    ([0xff800000#32, 0xbf800000#32, 0x80000001#32, 0x80000000#32, 0x00000000#32, 0x007fffff#32, 0x00800000#32,
      0x7f800000#32, 0x7fbfffff#32, 0x7fc00000#32].map fun v =>
        (Kernel.sign (s v), Kernel.expField (s v), Kernel.fracField (s v))) =
      [(true, 255, 0), (true, 127, 0), (true, 0, 1), (true, 0, 0), (false, 0, 0), (false, 0, 2 ^ 23 - 1), (false, 1, 0),
        (false, 255, 0), (false, 255, 2 ^ 22 - 1), (false, 255, 2 ^ 22)] := by decide +kernel

theorem witness_OnlyCanonicalNaN :
    Kernel.isNaN (Kernel.add .single .rne (s 0x7f800000#32) (s 0xff800000#32)).1 = true ∧
    Kernel.isNaN (fmt := .single) (Kernel.cvtDS .rne 0xfff8000000000123#64).1 = true ∧
    Kernel.isNaN (fmt := .double) (Kernel.cvtSD 0x7f800001#32).1 = true := by decide +kernel

end Sys2Proof.Tests
end

section
/-!
SUPPORT. Everything one instruction can do to the control state (60_exceptions.md R500 item 5, 10_state.md R25): it
retires at its next address, or it ends in a trap that only the trap registers and the log of requests show.
-/

namespace Sys2Proof.Machine

/-! ### The two ways an instruction ends -/

/-- `t` is a state in which an instruction executed in `s` has committed with `pc` at `next`: what holds of it whatever
the instruction writes. -/
structure Retired (s : State) (next : Word) (t : State) : Prop where
  answer : t.answer = .ok
  pc : t.pc = next
  clock : t.clock = s.clock + 1#64
  mcause : t.mcause = s.mcause
  mepc : t.mepc = s.mepc
  mtval : t.mtval = s.mtval
  cfg : t.cfg = s.cfg
  map : t.map = s.map

/-- The instruction retires at `next`, or it traps with nothing changed but the trap registers and the log (R503,
R504). -/
def Ends (s : State) (next : Word) (r : Result) : Prop :=
  (∃ t, r = .next t ∧ Retired s next t) ∨ ∃ tr requests, r = Trapped s tr requests

theorem Retired.ends {s t : State} {next : Word} (h : Retired s next t) : Ends s next (.next t) := .inl ⟨t, rfl, h⟩

/-- A committed effect retires at its next address. -/
theorem Commits.ends {s : State} {e : Effect s} {r : Result} (h : Commits s e r) : Ends s e.next r := by
  obtain ⟨t, hr, -, -, -, hpc, hclock, hanswer, -, -, hmcause, hmepc, hmtval, -, hcfg, hmap⟩ := h
  exact .inl ⟨t, hr, hanswer, hpc, hclock, hmcause, hmepc, hmtval, hcfg, hmap⟩

theorem Trapped.ends (s : State) (next : Word) (tr : Trap) (requests : List Request) :
    Ends s next (Trapped s tr requests) := .inr ⟨tr, requests, rfl⟩

/-- `u` is `s` with some requests logged: what an instruction has done before it writes anything. -/
def Logged (s u : State) : Prop := ∃ requests, u = { s with bus := s.bus ++ requests }

theorem Logged.refl (s : State) : Logged s s := ⟨[], by simp⟩

theorem Logged.request {s u : State} (h : Logged s u) (q : Request) : Logged s (u.request q) := by
  obtain ⟨requests, rfl⟩ := h
  exact ⟨requests ++ [q], by simp [State.request]⟩

theorem Logged.takeTrap_ends {s u : State} (h : Logged s u) (next : Word) (tr : Trap) :
    Ends s next (.next (takeTrap tr u)) := by
  obtain ⟨requests, rfl⟩ := h
  exact Trapped.ends s next tr requests

/-! ### Register results, jumps, branches and loads, from the effects they commit -/

theorem writeX_ends (ilen : Word) (rd : Reg) (v : Word) (s : State) : Ends s (s.pc + ilen) (writeX ilen rd v s) :=
  (writeX_commits ilen rd v s).ends

theorem noOperation_ends (ilen : Word) (s : State) : Ends s (s.pc + ilen) (noOperation ilen s) :=
  (noOperation_commits ilen s).ends

theorem finishS_ends (rd : FReg) (r : Word × FlagSet) (s : State) : Ends s (s.pc + 4#32) (finishS rd r s) :=
  (finishS_commits rd r s).ends

theorem finishD_ends (rd : FReg) (r : DWord × FlagSet) (s : State) : Ends s (s.pc + 4#32) (finishD rd r s) :=
  (finishD_commits rd r s).ends

theorem finishX_ends (rd : Reg) (r : Word × FlagSet) (s : State) : Ends s (s.pc + 4#32) (finishX rd r s) :=
  (finishX_commits rd r s).ends

theorem jumpTo_ends (ilen : Word) (rd : Reg) (t : Word) (s : State) : Ends s t (jumpTo ilen rd t s) := by
  obtain ⟨hgo, htrap⟩ := jumps_of s ilen rd t
  cases ha : aligned t s.cfg.ialign with
  | true => exact (hgo ha).ends
  | false => exact htrap ha ▸ Trapped.ends s t _ _

/-- `c.jr` and `c.jalr` jump with no offset (R482, R485). -/
theorem jalrTarget_zero (base : Word) : jalrTarget base 0#32 = base &&& 0xfffffffe#32 := by
  rw [jalrTarget, BitVec.add_zero]

/-- A branch is taken exactly where its condition holds. -/
theorem branchIf_ends {c : Prop} [Decidable c] {taken : Bool} (h : c ↔ taken = true) (ilen offset : Word)
    (s : State) :
    Ends s ((if c then some (s.pc + offset) else none).getD (s.pc + ilen)) (branchIf ilen taken offset s) := by
  obtain ⟨hnot, hgo, htrap⟩ := branches_of (s := s) (ilen := ilen) (o := offset) h
  by_cases hc : c
  · rw [if_pos hc]
    cases ha : aligned (s.pc + offset) s.cfg.ialign with
    | true => exact (hgo hc ha).ends
    | false => exact htrap hc ha ▸ Trapped.ends s _ _ _
  · rw [if_neg hc]
    exact (hnot hc).ends

/-- The same for a branch that is taken where its condition fails. -/
theorem branchIf_not_ends {c : Prop} [Decidable c] {taken : Bool} (h : c ↔ taken = false) (ilen offset : Word)
    (s : State) :
    Ends s ((if c then none else some (s.pc + offset)).getD (s.pc + ilen)) (branchIf ilen taken offset s) := by
  rw [← ite_not]
  exact branchIf_ends (by simp [h]) ilen offset s

theorem Loads.ends {s : State} {n : Nat} {ea : Word} {e : Effect s} {r : Result} (h : Loads s n ea e r) :
    Ends s e.next r := by
  obtain ⟨hok, hrefused, hmisaligned⟩ := h
  cases ha : aligned ea n with
  | false => exact hmisaligned ha ▸ Trapped.ends s _ _ _
  | true =>
    cases hp : accepts s.map .load ea n with
    | true => exact (hok ha hp).ends
    | false => exact hrefused ha hp ▸ Trapped.ends s _ _ _

theorem loadX_ends (ilen : Word) (n : Nat) (extend : BitVec (8 * n) → Word) (rd : Reg) (ea : Word) (s : State) :
    Ends s (s.pc + ilen) (loadX ilen n extend rd ea s) :=
  (loads_x rfl).ends

theorem loadS_ends (ilen : Word) (rd : FReg) (ea : Word) (s : State) : Ends s (s.pc + ilen) (loadS ilen rd ea s) :=
  (loads_s rfl).ends

theorem loadD_ends (ilen : Word) (rd : FReg) (ea : Word) (s : State) : Ends s (s.pc + ilen) (loadD ilen rd ea s) :=
  (loads_d rfl).ends

/-! ### Rounding mode and CSR access -/

theorem withRm_ends {s : State} {next : Word} {k : RoundingMode → Result} (h : ∀ m, Ends s next (k m))
    (rm : BitVec 3) (raw : Word) : Ends s next (withRm rm raw s k) := by
  cases hm : resolveRm rm s with
  | some m => exact withRm_some hm ▸ h m
  | none => exact withRm_none hm ▸ (Logged.refl s).takeTrap_ends next _

/-- Writing a CSR touches `fcsr` only (R34). -/
theorem State.writeCsr_eq (s : State) (v : Word) (c : Csr) : ∃ fcsr, s.writeCsr v c = { s with fcsr := fcsr } := by
  cases c with
  | fflags | frm | fcsr => exact ⟨_, rfl⟩
  | clockLow | clockHigh => exact ⟨s.fcsr, rfl⟩

theorem csrAccess_ends (raw : Word) (csr : BitVec 12) (writes reads : Bool) (new : Word → Word) (rd : Reg)
    (s : State) : Ends s (s.pc + 4#32) (csrAccess raw csr writes reads new rd s) := by
  have htrap := (Logged.refl s).takeTrap_ends (s.pc + 4#32) (.illegalInstruction raw)
  cases hc : csrAt s.cfg csr with
  | none => exact csrAccess_absent hc ▸ htrap
  | some c =>
    cases hw : writes && csrReadOnly csr with
    | true =>
      obtain ⟨rfl, hro⟩ := Bool.and_eq_true_iff.1 hw
      exact csrAccess_readOnly hro ▸ htrap
    | false =>
      rw [csrAccess_allowed hc hw]
      refine Retired.ends ?_
      obtain ⟨fcsr, hwritten⟩ := s.writeCsr_eq (new (if reads then s.readCsr c else 0#32)) c
      rw [hwritten]
      cases writes with
      | true => constructor <;> simp
      | false => constructor <;> simp

/-! ### Stores and atomic instructions -/

theorem storeBytes_ends (ilen : Word) (n : Nat) (ea : Word) (v : BitVec (8 * n)) (s : State) :
    Ends s (s.pc + ilen) (storeBytes ilen n ea v s) := by
  unfold storeBytes
  obtain ⟨-, -, h⟩ | ⟨-, -, h⟩ | ⟨-, h⟩ := storeThen_cases n ea v s fun s => .next (retire ilen s)
  · exact h ▸ Retired.ends ⟨rfl, rfl, rfl, rfl, rfl, rfl, rfl, rfl⟩
  · exact h ▸ ((Logged.refl s).request _).takeTrap_ends _ _
  · exact h ▸ (Logged.refl s).takeTrap_ends _ _

theorem atomicThen_ends {s : State} {next : Word} {k : State → Result} (h : Ends s next (k s)) (ea raw : Word) :
    Ends s next (atomicThen ea raw s k) := by
  cases ha : aligned ea 4 with
  | true => exact atomicThen_aligned ha ▸ h
  | false => exact atomicThen_misaligned ha ▸ (Logged.refl s).takeTrap_ends next _

theorem readThen_ends {s u : State} {next : Word} {n : Nat} {k : BitVec (8 * n) → State → Result} (hu : Logged s u)
    (h : ∀ v u', Logged s u' → Ends s next (k v u')) (ea : Word) : Ends s next (readThen n ea u k) := by
  cases hp : accepts u.map .load ea n with
  | true => exact readThen_accepted hp ▸ h _ _ (hu.request _)
  | false => exact readThen_refused hp ▸ (hu.request _).takeTrap_ends next _

theorem writeThen_ends {s u : State} {next : Word} {n : Nat} {ea : Word} {v : BitVec (8 * n)} {k : State → Result}
    (hu : Logged s u) (h : ∀ u', Logged s u' → Ends s next (k (u'.stored n ea v))) :
    Ends s next (writeThen n ea v u k) := by
  cases hp : accepts u.map .store ea n with
  | true => exact writeThen_accepted hp ▸ h _ (hu.request _)
  | false => exact writeThen_refused hp ▸ (hu.request _).takeTrap_ends next _

/-- The end of every atomic instruction: whatever it has done to memory and to the reservation, it writes `x[rd]` and
advances `pc`. -/
theorem Logged.retire_setX_ends {s u : State} (h : Logged s u) (mem : Memory) (reservation : Option Word) (rd : Reg)
    (v : Word) :
    Ends s (s.pc + 4#32)
      (.next (retire 4#32 (State.setX rd v { u with mem := mem, reservation := reservation }))) := by
  obtain ⟨requests, rfl⟩ := h
  refine Retired.ends ?_
  constructor <;> simp

theorem amo_ends (raw : Word) (op : Word → Word → Word) (rd rs1 rs2 : Reg) (s : State) :
    Ends s (s.pc + 4#32) (amo raw op rd rs1 rs2 s) :=
  atomicThen_ends
    (readThen_ends (Logged.refl s)
      (fun old _ hread => writeThen_ends hread fun _ hwrite => hwrite.retire_setX_ends _ _ rd old) _) _ _

theorem execLrW_ends (rd rs1 : Reg) (aq rl : Bool) (s : State) : Ends s (s.pc + 4#32) (execLrW rd rs1 aq rl s) :=
  atomicThen_ends (readThen_ends (Logged.refl s) (fun v u hread => hread.retire_setX_ends u.mem _ rd v) _) _ _

theorem execScW_ends (rd rs1 rs2 : Reg) (aq rl : Bool) (s : State) :
    Ends s (s.pc + 4#32) (execScW rd rs1 rs2 aq rl s) := by
  refine atomicThen_ends ?_ _ _
  split
  · exact writeThen_ends (Logged.refl s) fun _ hwrite => hwrite.retire_setX_ends _ none rd 0#32
  · exact (Logged.refl s).retire_setX_ends s.mem none rd 1#32

/-! ### All instructions -/

/-- R25: every instruction retires at its taken target or behind itself, or it traps. The atomic and CSR arms are
unfolded first: unification meets functions among their arguments that it cannot find through `exec`. -/
theorem exec_ends (s : State) (i : Instr) :
    Ends s ((takenTarget s i).getD (s.pc + (encode i).ilen)) (exec i s) := by
  cases i with
  | lui | auipc | addi | slti | sltiu | xori | ori | andi | slli | srli | srai | add | sub | sll | slt | sltu | xor | srl
  | sra | or | and | mul | mulh | mulhsu | mulhu | div | divu | rem | remu | cAddi4spn | cNop | cAddi | cLi | cAddi16sp
  | cLui | cSrli | cSrai | cAndi | cSub | cXor | cOr | cAnd | cSlli | cMv | cAdd => exact writeX_ends _ _ _ s
  | jal | jalr | cJal | cJ => exact jumpTo_ends _ _ _ s
  | cJr rs1 | cJalr rs1 =>
    show Ends s (s.getX rs1 &&& 0xfffffffe#32) _
    rw [← jalrTarget_zero]
    exact jumpTo_ends _ _ _ s
  | beq | cBeqz => exact branchIf_ends beq_iff_eq.symm _ _ s
  | bne | cBnez => exact branchIf_not_ends bne_eq_false_iff_eq.symm _ _ s
  | blt => exact branchIf_ends (by simp [BitVec.slt_iff_toInt_lt]) _ _ s
  | bltu => exact branchIf_ends (by simp [BitVec.ult_iff_toNat_lt]) _ _ s
  | bge => exact branchIf_not_ends (by simp [BitVec.slt_iff_toInt_lt]) _ _ s
  | bgeu => exact branchIf_not_ends (by simp [BitVec.ult_iff_toNat_lt]) _ _ s
  | lb | lh | lw | lbu | lhu | cLw | cLwsp => exact loadX_ends _ _ _ _ _ s
  | flw | cFlw | cFlwsp => exact loadS_ends _ _ _ s
  | fld | cFld | cFldsp => exact loadD_ends _ _ _ s
  | sb | sh | sw | fsw | fsd | cSw | cFsw | cFsd | cSwsp | cFswsp | cFsdsp => exact storeBytes_ends _ _ _ _ s
  | lrW rd rs1 aq rl => exact execLrW_ends rd rs1 aq rl s
  | scW rd rs1 rs2 aq rl => exact execScW_ends rd rs1 rs2 aq rl s
  | amoswapW | amoaddW | amoxorW | amoandW | amoorW | amominW | amomaxW | amominuW | amomaxuW =>
    rw [exec]
    exact amo_ends _ _ _ _ _ s
  | fence | fenceI | wfi => exact noOperation_ends _ s
  | ecall | ebreak | cEbreak => exact (Logged.refl s).takeTrap_ends _ _
  | csrrw | csrrs | csrrc | csrrwi | csrrsi | csrrci =>
    rw [exec]
    exact csrAccess_ends _ _ _ _ _ _ s
  | fmaddS | fmsubS | fnmsubS | fnmaddS | faddS | fsubS | fmulS | fdivS | fsqrtS | fcvtSW | fcvtSWu | fcvtSD =>
    exact withRm_ends (fun _ => finishS_ends _ _ s) _ _
  | fmaddD | fmsubD | fnmsubD | fnmaddD | faddD | fsubD | fmulD | fdivD | fsqrtD | fcvtDW | fcvtDWu | fcvtDS =>
    exact withRm_ends (fun _ => finishD_ends _ _ s) _ _
  | fcvtWS | fcvtWuS | fcvtWD | fcvtWuD => exact withRm_ends (fun _ => finishX_ends _ _ s) _ _
  | fsgnjS | fsgnjnS | fsgnjxS | fminS | fmaxS | fmvWX => exact finishS_ends _ _ s
  | fsgnjD | fsgnjnD | fsgnjxD | fminD | fmaxD => exact finishD_ends _ _ s
  | fmvXW | feqS | fltS | fleS | fclassS | feqD | fltD | fleD | fclassD => exact finishX_ends _ _ s

/-- Settles O17: read off what every instruction can do (R25). -/
theorem pcAdvances : Obligations.PcAdvances := by
  intro s t i h
  obtain ⟨t', hnext, hretired⟩ | ⟨tr, requests, htrapped⟩ := exec_ends s i
  · rw [hnext] at h
    obtain rfl := Host.Outcome.next.inj h
    exact ⟨fun _ => hretired.pc, fun hne => absurd hretired.answer hne⟩
  · rw [htrapped] at h
    obtain rfl := Host.Outcome.next.inj h
    exact ⟨nofun, fun _ => rfl⟩

end Sys2Proof.Machine
end

section
/-!
SUPPORT. NaN-boxed singles (10_state.md R28): what the two halves of a register say to a single-precision read.
-/

namespace Sys2Proof.Machine

theorem unbox_box (v : Word) : unbox (box v) = v := by
  unfold unbox box
  rw [BitVec.extractLsb'_append_eq_left, if_pos rfl, BitVec.extractLsb'_append_eq_right]

/-- The box check looks at the upper half of the register. -/
theorem upper_half_allOnes_iff (w : DWord) : w.extractLsb' 32 32 = 0xffffffff#32 ↔ w >>> 32 = 0xffffffff#64 := by
  have hw := w.isLt
  simp only [← BitVec.toNat_inj, BitVec.extractLsb'_toNat, BitVec.toNat_ushiftRight, BitVec.toNat_ofNat,
    Nat.shiftRight_eq_div_pow]
  omega

theorem unbox_boxed {w : DWord} (h : w >>> 32 = 0xffffffff#64) : unbox w = w.setWidth 32 := by
  rw [BitVec.setWidth_eq_extractLsb' (by decide)]
  exact if_pos ((upper_half_allOnes_iff w).2 h)

theorem unbox_unboxed {w : DWord} (h : w >>> 32 ≠ 0xffffffff#64) : unbox w = 0x7fc00000#32 :=
  if_neg (mt (upper_half_allOnes_iff w).1 h)

theorem readS_setF (r : FReg) (w : DWord) (s : State) : (s.setF r w).readS r = unbox w := by
  unfold State.readS
  rw [getF_setF, if_pos rfl]

theorem readS_writeS (r : FReg) (v : Word) (s : State) : (s.writeS r v).readS r = v :=
  (readS_setF r (box v) s).trans (unbox_box v)

/-- Settles O24, from the laws of reading back a register and of `box` and `unbox` (R28). -/
theorem nanBoxing : Obligations.NaNBoxing := fun s i k b w =>
  ⟨(getF_writeS i i b s).trans (if_pos rfl), readS_writeS i b s,
    fun hne => (getF_writeS i k b s).trans (if_neg hne),
    fun hboxed => (readS_setF i w s).trans (unbox_boxed hboxed),
    fun hunboxed => (readS_setF i w s).trans (unbox_unboxed hunboxed)⟩

end Sys2Proof.Machine
end

section
/-!
PROOFS. The misaligned atomic instructions (44_a_extension.md R240, R69): every one of them checks its address first and
traps with its own word.
-/

namespace Sys2Proof.Machine

/-- R240: the alignment check comes before any request and before the reservation is looked at. -/
theorem atomicThen_misaligned_trapped {ea : Word} {s : State} (h : aligned ea 4 = false) (raw : Word)
    (k : State → Result) : atomicThen ea raw s k = Trapped s (.illegalInstruction raw) [] :=
  (atomicThen_misaligned h).trans (trapped_eq s _)

theorem execLrW_misaligned {s : State} {rs1 : Reg} (h : aligned (s.getX rs1) 4 = false) (rd : Reg) (aq rl : Bool) :
    execLrW rd rs1 aq rl s = Trapped s (.illegalInstruction (Instr.raw (.lrW rd rs1 aq rl))) [] :=
  atomicThen_misaligned_trapped h _ _

theorem execScW_misaligned {s : State} {rs1 : Reg} (h : aligned (s.getX rs1) 4 = false) (rd rs2 : Reg)
    (aq rl : Bool) :
    execScW rd rs1 rs2 aq rl s = Trapped s (.illegalInstruction (Instr.raw (.scW rd rs1 rs2 aq rl))) [] :=
  atomicThen_misaligned_trapped h _ _

theorem amo_misaligned {s : State} {rs1 : Reg} (h : aligned (s.getX rs1) 4 = false) (raw : Word)
    (op : Word → Word → Word) (rd rs2 : Reg) :
    amo raw op rd rs1 rs2 s = Trapped s (.illegalInstruction raw) [] :=
  atomicThen_misaligned_trapped h _ _

/-- The trap value `raw` is the word itself where the instruction has a 32-bit encoding (R104). -/
theorem traps_ownWord {i : Instr} {s : State} {w : Word} (hw : encode i = .word w)
    (h : exec i s = Trapped s (.illegalInstruction i.raw) []) :
    ∃ w, encode i = .word w ∧ exec i s = Trapped s (.illegalInstruction w) [] :=
  ⟨w, hw, by rw [h, Instr.raw, hw, Code.raw]⟩

/-- Settles O36: `lr.w`, `sc.w` and the nine AMOs share one alignment check, and the trap value of each is its own
encoding (R69). -/
theorem misalignedAtomicsAreIllegal : Obligations.MisalignedAtomicsAreIllegal := by
  intro s rd rs1 rs2 aq rl ha i hi
  simp only [List.mem_cons, List.not_mem_nil, or_false] at hi
  obtain rfl | rfl | hamo := hi
  · exact traps_ownWord rfl (execLrW_misaligned ha rd aq rl)
  · exact traps_ownWord rfl (execScW_misaligned ha rd rs2 aq rl)
  · obtain rfl | rfl | rfl | rfl | rfl | rfl | rfl | rfl | rfl := hamo
    all_goals
      refine traps_ownWord rfl ?_
      rw [exec]
      exact amo_misaligned ha _ _ rd rs2

end Sys2Proof.Machine
end

section
/-!
SUPPORT. Which bits no row of the opcode table accepts (30_encoding.md R114): a row is out where it fixes a field of the
word to other bits, and a word for which every row is out is reserved.
-/

namespace Sys2Proof

theorem decode_of_selectRow_none {c : Code} (h : selectRow c = none) (cfg : Config) :
    decode cfg c = .error (.reserved c.raw) := by
  unfold decode; rw [h]

theorem selectRow_word_none {w : Word} (h : ∀ r ∈ rows32, ¬ r.accepts w = true) : selectRow (.word w) = none :=
  Option.map_eq_none_iff.2 (List.find?_eq_none.2 h)

/-- One field of a 32-bit word: its lowest bit, its length and the bits it holds. -/
structure FieldBits where
  lo : Nat
  len : Nat
  bits : BitVec len

namespace FieldBits

/-- The word holds these bits in the field. -/
def In (f : FieldBits) (w : Word) : Prop := w.extractLsb' f.lo f.len = f.bits

/-- The row fixes some bit of the field to another value. -/
def excludes (f : FieldBits) (r : Row 32) : Bool :=
  f.bits &&& r.mask.extractLsb' f.lo f.len != r.value.extractLsb' f.lo f.len

theorem excludes_sound {f : FieldBits} {r : Row 32} {w : Word} (hw : f.In w) (h : f.excludes r = true) :
    ¬ r.accepts w = true := by
  rw [Row.accepts_iff]
  rintro ⟨hv, -⟩
  refine bne_iff_ne.1 h ?_
  rw [← hv, BitVec.extractLsb'_and, hw]

end FieldBits

/-- Every row of the 32-bit table is excluded by one of the fields. -/
def excludeAllRows (fields : List FieldBits) : Bool :=
  rows32.all fun r => fields.any fun f => f.excludes r

theorem decode_of_excludeAllRows {fields : List FieldBits} {w : Word} (h : excludeAllRows fields = true)
    (hw : ∀ f ∈ fields, f.In w) (cfg : Config) : decode cfg (.word w) = .error (.reserved w) := by
  refine decode_of_selectRow_none (selectRow_word_none fun r hr => ?_) cfg
  obtain ⟨f, hf, hx⟩ := List.any_eq_true.1 (List.all_eq_true.1 h r hr)
  exact FieldBits.excludes_sound (hw f hf) hx

/-- An opcode that no row has. -/
theorem decode_of_opcode {w : Word} {opcode : BitVec 7} (h : excludeAllRows [⟨0, 7, opcode⟩] = true)
    (ho : w.extractLsb' 0 7 = opcode) (cfg : Config) : decode cfg (.word w) = .error (.reserved w) :=
  decode_of_excludeAllRows h (by simpa [FieldBits.In] using ho) cfg

/-- A pair of opcode and funct3 that no row has. -/
theorem decode_of_funct3 {w : Word} {opcode : BitVec 7} {funct3 : BitVec 3}
    (h : excludeAllRows [⟨0, 7, opcode⟩, ⟨12, 3, funct3⟩] = true)
    (ho : w.extractLsb' 0 7 = opcode) (hf : w.extractLsb' 12 3 = funct3) (cfg : Config) :
    decode cfg (.word w) = .error (.reserved w) :=
  decode_of_excludeAllRows h (by simpa [FieldBits.In] using ⟨ho, hf⟩) cfg

/-- Bit 25 set where every row with this opcode and funct3 has it clear. -/
theorem decode_of_bit25 {w : Word} {opcode : BitVec 7} {funct3 : BitVec 3}
    (h : excludeAllRows [⟨0, 7, opcode⟩, ⟨12, 3, funct3⟩, ⟨25, 1, 1#1⟩] = true)
    (ho : w.extractLsb' 0 7 = opcode) (hf : w.extractLsb' 12 3 = funct3) (hb : w.getLsbD 25 = true) (cfg : Config) :
    decode cfg (.word w) = .error (.reserved w) := by
  have h25 : w.extractLsb' 25 1 = 1#1 := by
    ext i hi
    obtain rfl : i = 0 := by omega
    simpa using hb
  exact decode_of_excludeAllRows h (by simpa [FieldBits.In] using ⟨ho, hf, h25⟩) cfg

end Sys2Proof
end

section
/-!
SUPPORT. The bits that stand at `pc` are the bits a step fetches, with its requests logged (60_exceptions.md R500 items
1 to 3).
-/

namespace Sys2Proof.Machine

/-- Two bytes of a value side by side in memory read as the halfword they are in it (R62). -/
theorem State.halfAt_eq_extract {n : Nat} {v : BitVec n} {lo : Nat} {s : State} {a : Word}
    (h0 : s.byteAt a = v.extractLsb' lo 8) (h1 : s.byteAt (a + 1#32) = v.extractLsb' (lo + 8) 8) :
    s.halfAt a = v.extractLsb' lo 16 := by
  rw [State.halfAt, h0, h1]
  exact BitVec.extractLsb'_append_extractLsb'_eq_extractLsb' rfl

theorem Holds.readBytes_half {s : State} {h : Half} (hs : Holds s (.half h)) : readBytes 2 s.mem s.pc = h := by
  have h0 : s.byteAt (s.pc + 0#32) = h.extractLsb' 0 8 := hs.bytes 0 (by simp [codeBytes])
  have h1 : s.byteAt (s.pc + 1#32) = h.extractLsb' 8 8 := hs.bytes 1 (by simp [codeBytes])
  rw [BitVec.add_zero] at h0
  rw [readBytes_two, State.halfAt_eq_extract h0 h1, BitVec.extractLsb'_eq_self]

theorem Holds.readBytes_low {s : State} {w : Word} (hs : Holds s (.word w)) :
    readBytes 2 s.mem s.pc = w.extractLsb' 0 16 := by
  have h0 : s.byteAt (s.pc + 0#32) = w.extractLsb' 0 8 := hs.bytes 0 (by simp [codeBytes, wordBytes])
  have h1 : s.byteAt (s.pc + 1#32) = w.extractLsb' 8 8 := hs.bytes 1 (by simp [codeBytes, wordBytes])
  rw [BitVec.add_zero] at h0
  rw [readBytes_two, State.halfAt_eq_extract h0 h1]

theorem Holds.readBytes_high {s : State} {w : Word} (hs : Holds s (.word w)) :
    readBytes 2 s.mem (s.pc + 2#32) = w.extractLsb' 16 16 := by
  have h2 : s.byteAt (s.pc + 2#32) = w.extractLsb' 16 8 := hs.bytes 2 (by simp [codeBytes, wordBytes])
  have h3 : s.byteAt (s.pc + 3#32) = w.extractLsb' 24 8 := hs.bytes 3 (by simp [codeBytes, wordBytes])
  have h3' : s.byteAt (s.pc + 2#32 + 1#32) = w.extractLsb' 24 8 := (BitVec.add_assoc ..).symm ▸ h3
  rw [readBytes_two, State.halfAt_eq_extract h2 h3']

/-- R101: the low halfword tells the length of the code that starts with it. -/
def LowHalfTells (cfg : Config) : Code → Prop
  | .half h => isCompressed cfg h = true
  | .word w => isCompressed cfg (w.extractLsb' 0 16) = false

theorem Holds.fetchCode_eq {s : State} {c : Code} (hs : Holds s c) (ha : aligned s.pc s.cfg.ialign = true)
    (hl : LowHalfTells s.cfg c) :
    fetchCode { s with bus := [] } = .code c { s with bus := fetchRequests s c } := by
  cases c with
  | half h =>
    have hr := hs.readBytes_half
    rw [fetchCode_half (s := { s with bus := [] }) ha hs.low (hr.symm ▸ hl), hr]
    rfl
  | word w =>
    have hlo := hs.readBytes_low
    have hword : w.extractLsb' 16 16 ++ w.extractLsb' 0 16 = w := BitVec.extractLsb'_append_extractLsb'
    rw [fetchCode_word (s := { s with bus := [] }) ha hs.low (hlo.symm ▸ hl) (hs.high w rfl), hs.readBytes_high, hlo,
      hword]
    rfl

end Sys2Proof.Machine
end

section
/-!
PROOFS. Bits that are no instruction (30_encoding.md R114): the step traps with them, and the encodings R114 names are
such bits.
-/

namespace Sys2Proof.Machine

/-- The fetched bits decode to nothing: R500 item 4. -/
theorem Holds.step_of_decode_error {s : State} {c : Code} {e : DecodeError} (hs : Holds s c)
    (ha : aligned s.pc s.cfg.ialign = true) (hl : LowHalfTells s.cfg c) (hd : decode s.cfg c = .error e) :
    step s = Trapped { s with bus := [] } (.illegalInstruction c.raw) (fetchRequests s c) := by
  unfold step
  rw [hs.fetchCode_eq ha hl]
  simp [hd, takeTrap, Trapped]

/-- Settles O7: the step fetches the bits at `pc` and traps where decoding rejects them, and each encoding that R114
names differs from every row of the table in a field the row fixes. -/
theorem illegalBitsTrap : Obligations.IllegalBitsTrap := by
  refine ⟨fun s c e ha hs hhalf hword hd => hs.step_of_decode_error ha ?_ hd, fun cfg w => ⟨fun h => ?_, ?_⟩⟩
  · cases c with
    | half h => exact hhalf h rfl
    | word w => exact hword w rfl
  · obtain rfl | rfl | ⟨ho, hf | hf, hb⟩ | ⟨ho, hf⟩ | ho | ho | ⟨ho, hf | hf⟩ | ⟨ho, hf⟩ := h
    · exact decode_of_opcode (opcode := 0x00#7) (by decide +kernel) rfl cfg
    · exact decode_of_opcode (opcode := 0x7f#7) (by decide +kernel) rfl cfg
    · exact decode_of_bit25 (by decide +kernel) ho hf hb cfg
    · exact decode_of_bit25 (by decide +kernel) ho hf hb cfg
    · exact decode_of_funct3 (by decide +kernel) ho hf cfg
    · exact decode_of_opcode (by decide +kernel) ho cfg
    · exact decode_of_opcode (by decide +kernel) ho cfg
    · exact decode_of_funct3 (by decide +kernel) ho hf cfg
    · exact decode_of_funct3 (by decide +kernel) ho hf cfg
    · exact decode_of_funct3 (by decide +kernel) ho hf cfg
  · exact decode_of_selectRow_none (c := .half 0x0000#16) (by decide +kernel) cfg

end Sys2Proof.Machine
end

section
/-!
SUPPORT. A bit pattern is its sign and its magnitude, the bits below the sign bit, which hold the exponent and fraction
fields (46_fp_kernel.md R301, R302).
-/

namespace Sys2Proof.Machine

theorem Fmt.expMax_ne_zero (fmt : Fmt) : fmt.expMax ≠ 0 := by cases fmt <;> decide

theorem Fmt.fracBits_pos (fmt : Fmt) : 0 < fmt.fracBits := by cases fmt <;> decide

theorem Fmt.width_eq (fmt : Fmt) : fmt.width = fmt.fracBits + fmt.expBits + 1 := by cases fmt <;> rfl

namespace Kernel

/-- The bits below the sign bit, as a number. -/
def magnitude {fmt : Fmt} (x : BitVec fmt.width) : Nat := x.toNat % 2 ^ (fmt.width - 1)

theorem orderKey_eq {fmt : Fmt} (x : BitVec fmt.width) : orderKey x = signedMant (sign x) (magnitude x) := rfl

theorem natAbs_signedMant (s : Bool) (m : Nat) : (signedMant s m).natAbs = m := by cases s <;> simp [signedMant]

theorem signedMant_not (s : Bool) (m : Nat) : signedMant (!s) m = -signedMant s m := by cases s <;> simp [signedMant]

theorem natAbs_orderKey {fmt : Fmt} (x : BitVec fmt.width) : (orderKey x).natAbs = magnitude x := natAbs_signedMant _ _

theorem fracField_lt {fmt : Fmt} (x : BitVec fmt.width) : fracField x < 2 ^ fmt.fracBits := Nat.mod_lt _ (by positivity)

theorem expField_le {fmt : Fmt} (x : BitVec fmt.width) : expField x ≤ fmt.expMax :=
  Nat.le_sub_one_of_lt (Nat.mod_lt _ (by positivity))

theorem magnitude_eq {fmt : Fmt} (x : BitVec fmt.width) :
    magnitude x = expField x * 2 ^ fmt.fracBits + fracField x := by
  have hw : fmt.width - 1 = fmt.fracBits + fmt.expBits := by rw [fmt.width_eq]; rfl
  rw [magnitude, hw, pow_add, Nat.mod_mul, Nat.add_comm, Nat.mul_comm]
  rfl

theorem magnitude_div {fmt : Fmt} (x : BitVec fmt.width) : magnitude x / 2 ^ fmt.fracBits = expField x := by
  rw [magnitude_eq, Nat.add_comm, Nat.add_mul_div_right _ _ (by positivity), Nat.div_eq_of_lt (fracField_lt x),
    Nat.zero_add]

theorem magnitude_mod {fmt : Fmt} (x : BitVec fmt.width) : magnitude x % 2 ^ fmt.fracBits = fracField x := by
  rw [magnitude_eq, Nat.add_comm, Nat.add_mul_mod_self_right, Nat.mod_eq_of_lt (fracField_lt x)]

theorem toNat_eq_sign_magnitude {fmt : Fmt} (x : BitVec fmt.width) :
    x.toNat = (sign x).toNat * 2 ^ (fmt.width - 1) + magnitude x := by
  have hs : sign x = decide (2 ^ (fmt.width - 1) ≤ x.toNat) := by
    rw [← BitVec.msb_eq_decide, BitVec.msb_eq_getLsbD_last, sign]
  have hlt : x.toNat < 2 * 2 ^ (fmt.width - 1) := x.isLt.trans_eq (by rw [fmt.width_eq]; exact Nat.pow_succ')
  rw [hs, magnitude]
  by_cases h : 2 ^ (fmt.width - 1) ≤ x.toNat
  · rw [Nat.mod_eq_sub_mod h, Nat.mod_eq_of_lt (by omega)]
    simp [h]
  · rw [Nat.mod_eq_of_lt (by omega)]
    simp [h]

theorem eq_of_sign_of_magnitude {fmt : Fmt} {x y : BitVec fmt.width} (hs : sign x = sign y)
    (hm : magnitude x = magnitude y) : x = y :=
  BitVec.eq_of_toNat_eq (by rw [toNat_eq_sign_magnitude x, toNat_eq_sign_magnitude y, hs, hm])

/-- The two patterns of magnitude 0 are the zeros. -/
theorem eq_zero_of_magnitude {fmt : Fmt} {x : BitVec fmt.width} (h : magnitude x = 0) : x = zero fmt (sign x) := by
  have hz : ∀ s, sign (zero fmt s) = s ∧ magnitude (zero fmt s) = 0 := by cases fmt <;> decide +kernel
  exact eq_of_sign_of_magnitude (hz _).1.symm (h.trans (hz _).2.symm)

/-- A NaN is signaling where its fraction lies in the lower half (R302). -/
theorem isSignaling_of_isNaN {fmt : Fmt} {x : BitVec fmt.width} (h : isNaN x = true) :
    isSignaling x = decide (fracField x < 2 ^ (fmt.fracBits - 1)) := by
  have htop : x.getLsbD (fmt.fracBits - 1) = decide (2 ^ (fmt.fracBits - 1) ≤ fracField x) := by
    have hm := BitVec.msb_setWidth (v := fmt.fracBits) x
    rw [BitVec.msb_eq_decide, BitVec.toNat_setWidth, decide_eq_true fmt.fracBits_pos, Bool.true_and] at hm
    exact hm.symm
  rw [isSignaling, h, htop, Bool.true_and, ← decide_not]
  exact decide_eq_decide.2 Nat.not_le

end Kernel

end Sys2Proof.Machine
end

section
/-!
PROOFS. Classification (46_fp_kernel.md R319): the class of a pattern from its fields.
-/

namespace Sys2Proof.Machine.Kernel

section
variable {fmt : Fmt} {x : BitVec fmt.width}

theorem classBit_of_nan (he : expField x = fmt.expMax) (hf : fracField x ≠ 0) :
    classBit x = if fracField x < 2 ^ (fmt.fracBits - 1) then 8 else 9 := by
  have hn : isNaN x = true := by simp [isNaN, he, hf]
  simp [classBit, hn, isSignaling_of_isNaN hn]

theorem classBit_of_infinity (he : expField x = fmt.expMax) (hf : fracField x = 0) :
    classBit x = if sign x then 0 else 7 := by
  simp [classBit, isNaN, isInf, he, hf]

theorem classBit_of_zero (he : expField x = 0) (hf : fracField x = 0) : classBit x = if sign x then 3 else 4 := by
  simp [classBit, isNaN, isInf, isZero, he, hf, fmt.expMax_ne_zero.symm]

theorem classBit_of_subnormal (he : expField x = 0) (hf : fracField x ≠ 0) :
    classBit x = if sign x then 2 else 5 := by
  simp [classBit, isNaN, isInf, isZero, isSubnormal, he, hf, fmt.expMax_ne_zero.symm]

theorem classBit_of_normal (he : expField x ≠ fmt.expMax) (he0 : expField x ≠ 0) :
    classBit x = if sign x then 1 else 6 := by
  simp [classBit, isNaN, isInf, isZero, isSubnormal, he, he0]

end

theorem classBit_le {fmt : Fmt} (x : BitVec fmt.width) : classBit x ≤ 9 := by
  unfold classBit
  split_ifs <;> decide

theorem toNat_classify {fmt : Fmt} (x : BitVec fmt.width) : (classify fmt x).toNat = 2 ^ classBit x := by
  have hlt : classBit x < 32 := (classBit_le x).trans_lt (by decide)
  rw [classify, BitVec.toNat_shiftLeft, Nat.shiftLeft_eq]
  simpa using Nat.mod_eq_of_lt (Nat.pow_lt_pow_right (by decide : 1 < 2) hlt)

/-- Settles O58: the mask is the power of two of the class, and the fields tell the class. -/
theorem classifyRule : Obligations.ClassifyRule := by
  intro fmt x s e f top c
  have hc : c = 2 ^ classBit x := toNat_classify x
  have hhalf : 0 < 2 ^ (fmt.fracBits - 1) := by positivity
  rw [hc]
  refine ⟨fun hs he hf => ?_, fun hs he he0 => ?_, fun hs he hf => ?_, fun hs he hf => ?_, fun hs he hf => ?_,
    fun hs he hf => ?_, fun hs he he0 => ?_, fun hs he hf => ?_, fun he hf hlo => ?_, fun he hhi => ?_⟩
  · rw [classBit_of_infinity he hf, if_pos hs]
  · rw [classBit_of_normal he he0, if_pos hs]
  · rw [classBit_of_subnormal he hf, if_pos hs]
  · rw [classBit_of_zero he hf, if_pos hs]
  · rw [classBit_of_zero he hf, if_neg (ne_true_of_eq_false hs)]
  · rw [classBit_of_subnormal he hf, if_neg (ne_true_of_eq_false hs)]
  · rw [classBit_of_normal he he0, if_neg (ne_true_of_eq_false hs)]
  · rw [classBit_of_infinity he hf, if_neg (ne_true_of_eq_false hs)]
  · rw [classBit_of_nan he hf, if_pos hlo]
  · rw [classBit_of_nan he (hhalf.trans_le hhi).ne', if_neg hhi.not_gt]

end Sys2Proof.Machine.Kernel
end

section
/-!
SUPPORT. Every value of a format is a whole number of units of its least subnormal (R301, R302), and that number grows
with the magnitude; so the order key orders patterns as their values are ordered.
-/

namespace Sys2Proof.Machine.Kernel

/-- The value of magnitude `m` in units of the least subnormal, with `p` fraction bits below the exponent field. The
subtraction is the natural numbers': the exponents 0 and 1 share one scale. -/
def units (p m : Nat) : Nat :=
  (if m / 2 ^ p = 0 then m % 2 ^ p else 2 ^ p + m % 2 ^ p) * 2 ^ (m / 2 ^ p - 1)

/-- From one magnitude to the next the value grows by one unit of the exponent's scale. -/
theorem units_succ (p m : Nat) : units p (m + 1) = units p m + 2 ^ (m / 2 ^ p - 1) := by
  have h1 := Nat.div_add_mod m (2 ^ p)
  have h2 := Nat.div_add_mod (m + 1) (2 ^ p)
  by_cases hcarry : 2 ^ p ∣ m + 1
  · have hdiv : (m + 1) / 2 ^ p = m / 2 ^ p + 1 := Nat.succ_div_of_dvd hcarry
    have hmod : (m + 1) % 2 ^ p = 0 := Nat.mod_eq_zero_of_dvd hcarry
    have hlast : m % 2 ^ p + 1 = 2 ^ p := by
      rw [hdiv, hmod, Nat.mul_add] at h2
      omega
    rw [units, units, hdiv, hmod]
    generalize m / 2 ^ p = e, m % 2 ^ p = f at hlast ⊢
    rw [← hlast]
    cases e with
    | zero => simp
    | succ q => simp only [Nat.add_sub_cancel, Nat.succ_ne_zero, if_false, pow_succ]; ring
  · have hdiv : (m + 1) / 2 ^ p = m / 2 ^ p := Nat.succ_div_of_not_dvd hcarry
    have hmod : (m + 1) % 2 ^ p = m % 2 ^ p + 1 := by
      rw [hdiv] at h2
      omega
    rw [units, units, hdiv, hmod]
    split <;> ring

theorem units_strictMono (p : Nat) : StrictMono (units p) :=
  strictMono_nat_of_lt_succ fun m => by
    rw [units_succ]
    exact Nat.lt_add_of_pos_right (by positivity)

/-- The units of a signed magnitude. -/
def signedUnits (p : Nat) (k : Int) : Int := k.sign * units p k.natAbs

theorem signedUnits_signedMant (p : Nat) (s : Bool) (m : Nat) :
    signedUnits p (signedMant s m) = signedMant s (units p m) := by
  have h0 : units p 0 = 0 := by simp [units]
  obtain rfl | hm := m.eq_zero_or_pos
  · cases s <;> simp [signedUnits, signedMant, h0]
  · have hsign : (m : Int).sign = 1 := Int.sign_eq_one_of_pos (Int.natCast_pos.2 hm)
    cases s <;> simp [signedUnits, signedMant, hsign]

theorem signedUnits_natCast (p m : Nat) : signedUnits p m = units p m := signedUnits_signedMant p false m

theorem signedUnits_strictMono (p : Nat) : StrictMono (signedUnits p) := by
  refine strictMono_of_odd_strictMonoOn_nonneg (fun k => by simp [signedUnits]) fun a ha b hb hab => ?_
  lift a to ℕ using ha
  lift b to ℕ using hb
  rw [signedUnits_natCast, signedUnits_natCast]
  exact Int.ofNat_lt.2 (units_strictMono p (Int.ofNat_lt.1 hab))

theorem mant_mul_two_pow {fmt : Fmt} (x : BitVec fmt.width) :
    mant x * 2 ^ (expField x - 1) = units fmt.fracBits (magnitude x) := by
  rw [units, magnitude_div, magnitude_mod, mant]

theorem value_eq_units {fmt : Fmt} (x : BitVec fmt.width) :
    value x = signedUnits fmt.fracBits (orderKey x) * (2 : ℚ) ^ (fmt.emin - fmt.fracBits) := by
  have hexp : exponent x = ((expField x - 1 : Nat) : Int) + (fmt.emin - fmt.fracBits) := by
    rw [exponent, Fmt.emin]; omega
  rw [orderKey_eq, signedUnits_signedMant, ← mant_mul_two_pow, value, hexp, zpow_add₀ two_ne_zero, zpow_natCast]
  cases sign x <;> simp [signedMant] <;> ring

/-- The magnitude of the infinities. -/
def infMagnitude (fmt : Fmt) : Nat := fmt.expMax * 2 ^ fmt.fracBits

theorem infMagnitude_pos (fmt : Fmt) : 0 < infMagnitude fmt :=
  Nat.mul_pos (Nat.pos_of_ne_zero fmt.expMax_ne_zero) (by positivity)

theorem magnitude_of_isInf {fmt : Fmt} {x : BitVec fmt.width} (h : isInf x = true) : magnitude x = infMagnitude fmt := by
  obtain ⟨he, hf⟩ : expField x = fmt.expMax ∧ fracField x = 0 := by simpa [isInf] using h
  rw [magnitude_eq, he, hf, infMagnitude, Nat.add_zero]

theorem magnitude_lt_of_finite {fmt : Fmt} {x : BitVec fmt.width} (hn : isNaN x = false) (hi : isInf x = false) :
    magnitude x < infMagnitude fmt := by
  have he : expField x ≠ fmt.expMax := fun he => by
    by_cases hf : fracField x = 0
    · simp [isInf, he, hf] at hi
    · simp [isNaN, he, hf] at hn
  calc magnitude x = expField x * 2 ^ fmt.fracBits + fracField x := magnitude_eq x
    _ < (expField x + 1) * 2 ^ fmt.fracBits := by rw [Nat.succ_mul]; exact Nat.add_lt_add_left (fracField_lt x) _
    _ ≤ infMagnitude fmt := Nat.mul_le_mul_right _ ((expField_le x).lt_of_ne he)

theorem magnitude_le {fmt : Fmt} {x : BitVec fmt.width} (hn : isNaN x = false) : magnitude x ≤ infMagnitude fmt := by
  cases hi : isInf x with
  | true => exact (magnitude_of_isInf hi).le
  | false => exact (magnitude_lt_of_finite hn hi).le

/-- The extended value that a key between those of the two infinities stands for. -/
def keyValue (fmt : Fmt) (k : Int) : WithBot (WithTop ℚ) :=
  if k = infMagnitude fmt then ((⊤ : WithTop ℚ) : WithBot (WithTop ℚ))
  else if k = -infMagnitude fmt then ⊥
  else (((signedUnits fmt.fracBits k * (2 : ℚ) ^ (fmt.emin - fmt.fracBits) : ℚ) : WithTop ℚ) : WithBot (WithTop ℚ))

/-- The keys of the patterns that are no NaN. -/
def keyRange (fmt : Fmt) : Set Int := Set.Icc (-infMagnitude fmt) (infMagnitude fmt)

theorem orderKey_mem_keyRange {fmt : Fmt} {x : BitVec fmt.width} (hn : isNaN x = false) :
    orderKey x ∈ keyRange fmt := by
  have hm := magnitude_le hn
  rw [← natAbs_orderKey] at hm
  exact Set.mem_Icc.2 (by omega)

theorem keyValue_strictMonoOn (fmt : Fmt) : StrictMonoOn (keyValue fmt) (keyRange fmt) := by
  rintro a ⟨hla, hua⟩ b ⟨hlb, hub⟩ hab
  have ha : a ≠ infMagnitude fmt := (hab.trans_le hub).ne
  have hb : b ≠ -infMagnitude fmt := (hla.trans_lt hab).ne'
  have hfinite : (signedUnits fmt.fracBits a * (2 : ℚ) ^ (fmt.emin - fmt.fracBits) : ℚ) <
      signedUnits fmt.fracBits b * (2 : ℚ) ^ (fmt.emin - fmt.fracBits) :=
    mul_lt_mul_of_pos_right (Int.cast_lt.2 (signedUnits_strictMono _ hab)) (by positivity)
  rw [keyValue, keyValue, if_neg ha, if_neg hb]
  split_ifs
  · exact WithBot.bot_lt_coe _
  · exact WithBot.bot_lt_coe _
  · exact WithBot.coe_lt_coe.2 (WithTop.coe_lt_top _)
  · exact WithBot.coe_lt_coe.2 (WithTop.coe_lt_coe.2 hfinite)

theorem extendedValue_eq_keyValue {fmt : Fmt} {x : BitVec fmt.width} (hn : isNaN x = false) :
    extendedValue x = keyValue fmt (orderKey x) := by
  have hpos := infMagnitude_pos fmt
  cases hi : isInf x with
  | true =>
    rw [extendedValue, if_pos hi, orderKey_eq, magnitude_of_isInf hi, keyValue]
    cases sign x
    · simp [signedMant]
    · have hne : -(infMagnitude fmt : Int) ≠ infMagnitude fmt := by omega
      simp [signedMant, hne]
  | false =>
    have hm := magnitude_lt_of_finite hn hi
    obtain ⟨hlo, hhi⟩ : -(infMagnitude fmt : Int) < orderKey x ∧ orderKey x < infMagnitude fmt := by
      rw [← natAbs_orderKey] at hm
      omega
    rw [extendedValue, if_neg (ne_true_of_eq_false hi), keyValue, if_neg hhi.ne, if_neg hlo.ne', value_eq_units]

section
variable {fmt : Fmt} {x y : BitVec fmt.width} (hx : isNaN x = false) (hy : isNaN y = false)
include hx hy

theorem extendedValue_lt_iff : extendedValue x < extendedValue y ↔ orderKey x < orderKey y := by
  rw [extendedValue_eq_keyValue hx, extendedValue_eq_keyValue hy]
  exact (keyValue_strictMonoOn fmt).lt_iff_lt (orderKey_mem_keyRange hx) (orderKey_mem_keyRange hy)

theorem extendedValue_le_iff : extendedValue x ≤ extendedValue y ↔ orderKey x ≤ orderKey y := by
  rw [extendedValue_eq_keyValue hx, extendedValue_eq_keyValue hy]
  exact (keyValue_strictMonoOn fmt).le_iff_le (orderKey_mem_keyRange hx) (orderKey_mem_keyRange hy)

theorem extendedValue_eq_iff : extendedValue x = extendedValue y ↔ orderKey x = orderKey y := by
  rw [extendedValue_eq_keyValue hx, extendedValue_eq_keyValue hy]
  exact (keyValue_strictMonoOn fmt).injOn.eq_iff (orderKey_mem_keyRange hx) (orderKey_mem_keyRange hy)

end

end Sys2Proof.Machine.Kernel
end

section
/-!
PROOFS. Comparison, minimum and maximum (46_fp_kernel.md R317, R318).
-/

namespace Sys2Proof.Machine.Kernel

/-- Two patterns with one key are equal, or they are the two zeros. -/
theorem zeros_of_orderKey_eq {fmt : Fmt} {x y : BitVec fmt.width} (hk : orderKey x = orderKey y) (hne : x ≠ y) :
    x = zero fmt (sign x) ∧ y = zero fmt (!sign x) := by
  have hm : magnitude x = magnitude y := by rw [← natAbs_orderKey, hk, natAbs_orderKey]
  have hs : sign y = !sign x := Bool.eq_not_of_ne fun hs => hne (eq_of_sign_of_magnitude hs.symm hm)
  have hx : magnitude x = 0 := by
    rw [orderKey_eq y, hs, ← hm, signedMant_not, ← orderKey_eq] at hk
    rw [← natAbs_orderKey]
    omega
  exact ⟨eq_zero_of_magnitude hx, hs ▸ eq_zero_of_magnitude (hm ▸ hx)⟩

section
variable {fmt : Fmt} {x y : BitVec fmt.width}

theorem minNum_flags : (minNum fmt x y).2 = raiseIf (isSignaling x || isSignaling y) flagNV := by
  unfold minNum
  split_ifs <;> rfl

theorem maxNum_flags : (maxNum fmt x y).2 = raiseIf (isSignaling x || isSignaling y) flagNV := by
  unfold maxNum
  split_ifs <;> rfl

theorem min_max_of_lt (hx : isNaN x = false) (hy : isNaN y = false) (h : orderKey x < orderKey y) :
    (minNum fmt x y).1 = x ∧ (maxNum fmt x y).1 = y := by
  simp [minNum, maxNum, hx, hy, h, h.not_gt, h.ne]

theorem min_max_of_gt (hx : isNaN x = false) (hy : isNaN y = false) (h : orderKey y < orderKey x) :
    (minNum fmt x y).1 = y ∧ (maxNum fmt x y).1 = x := by
  simp [minNum, maxNum, hx, hy, h, h.not_gt, h.ne']

theorem min_max_of_key_eq (hx : isNaN x = false) (hy : isNaN y = false) (h : orderKey x = orderKey y) :
    (minNum fmt x y).1 = (if sign x then x else y) ∧ (maxNum fmt x y).1 = if sign x then y else x := by
  cases hs : sign x <;> simp [minNum, maxNum, hx, hy, h, hs]

/-- The two zeros in either order: -0 is the less of them. -/
theorem min_max_of_zeros (hx : isNaN x = false) (hy : isNaN y = false) (h : orderKey x = orderKey y) (hne : x ≠ y) :
    (minNum fmt x y).1 = zero fmt true ∧ (maxNum fmt x y).1 = zero fmt false := by
  obtain ⟨hzx, hzy⟩ := zeros_of_orderKey_eq h hne
  obtain ⟨hmin, hmax⟩ := min_max_of_key_eq hx hy h
  rw [hmin, hmax]
  cases hs : sign x <;> rw [hs] at hzx hzy
  · exact ⟨hzy, hzx⟩
  · exact ⟨hzx, hzy⟩

theorem compare_of_nan (h : (isNaN x || isNaN y) = true) :
    eq fmt x y = (false, raiseIf (isSignaling x || isSignaling y) flagNV) ∧ lt fmt x y = (false, flagNV) ∧
      le fmt x y = (false, flagNV) :=
  ⟨if_pos h, if_pos h, if_pos h⟩

theorem compare_of_not_nan (hx : isNaN x = false) (hy : isNaN y = false) :
    eq fmt x y = (decide (extendedValue x = extendedValue y), noFlags) ∧
      lt fmt x y = (decide (extendedValue x < extendedValue y), noFlags) ∧
      le fmt x y = (decide (extendedValue x ≤ extendedValue y), noFlags) := by
  have h : ¬ (isNaN x || isNaN y) = true := by simp [hx, hy]
  rw [eq, lt, le, if_neg h, if_neg h, if_neg h]
  simp only [extendedValue_eq_iff hx hy, extendedValue_lt_iff hx hy, extendedValue_le_iff hx hy, Bool.beq_eq_decide_eq,
    and_self]

end

/-- Settles O57: on patterns that are no NaN the order of the values is the order of the keys the kernel compares, and
keys tie only for equal patterns and for the two zeros. -/
theorem comparisonRule : Obligations.ComparisonRule := by
  intro fmt x y nan nv vx vy
  have hnan : nan = false → isNaN x = false ∧ isNaN y = false := fun h => Bool.or_eq_false_iff.1 h
  refine ⟨compare_of_nan, fun h => ?_, minNum_flags, maxNum_flags, fun hx hy => ?_, fun hx hy => ?_, fun hx hy => ?_,
    fun h hlt => ?_, fun h hgt => ?_, fun h heq hne => ?_, fun h hxy => ?_⟩
  · obtain ⟨hx, hy⟩ := hnan h
    exact compare_of_not_nan hx hy
  · simp [minNum, maxNum, hx, hy]
  · simp [minNum, maxNum, hx, hy]
  · simp [minNum, maxNum, hx, hy]
  · obtain ⟨hx, hy⟩ := hnan h
    exact min_max_of_lt hx hy ((extendedValue_lt_iff hx hy).1 hlt)
  · obtain ⟨hx, hy⟩ := hnan h
    exact min_max_of_gt hx hy ((extendedValue_lt_iff hy hx).1 hgt)
  · obtain ⟨hx, hy⟩ := hnan h
    exact min_max_of_zeros hx hy ((extendedValue_eq_iff hx hy).1 heq) hne
  · obtain ⟨hx, hy⟩ := hnan h
    subst hxy
    simpa using min_max_of_key_eq hx hy rfl

end Sys2Proof.Machine.Kernel
end

section
/-!
PROOFS. Everything one step can do (60_exceptions.md R500): it traps before it has written anything, or it is one
instruction. So a step that traps has changed the trap registers only (R503, R504).
-/

namespace Sys2Proof.Machine

/-! ### A step is a trap or an instruction -/

theorem step_of_fetchCode_trapped {s u : State} {tr : Trap} (h : fetchCode { s with bus := [] } = .trapped tr u) :
    step s = .next (takeTrap tr u) := by
  rw [step, h]

/-- R500 item 4: the fetched bits are an instruction, which is executed, or they are none. -/
theorem step_of_fetchCode_code {s u : State} {c : Code} (h : fetchCode { s with bus := [] } = .code c u) :
    (∃ tr, step s = .next (takeTrap tr u)) ∨ ∃ i, step s = exec i u := by
  rw [step, h]
  cases hd : decode u.cfg c with
  | error => exact .inl ⟨.illegalInstruction c.raw, by simp only [hd]⟩
  | ok i => exact .inr ⟨i, by simp only [hd]⟩

/-- Whatever a step does, up to the execution of its instruction it has only logged requests. -/
theorem step_cases (s : State) :
    ∃ u, Logged { s with bus := [] } u ∧ ((∃ tr, step s = .next (takeTrap tr u)) ∨ ∃ i, step s = exec i u) := by
  obtain ⟨tr, q, h⟩ | ⟨_, q, -, h⟩ | ⟨_, q, h⟩ := fetchCode_log { s with bus := [] }
  · exact ⟨_, ⟨q, rfl⟩, .inl ⟨tr, step_of_fetchCode_trapped h⟩⟩
  · exact ⟨_, ⟨q, rfl⟩, step_of_fetchCode_code h⟩
  · exact ⟨_, ⟨q, rfl⟩, step_of_fetchCode_code h⟩

/-! ### How a step ends -/

/-- How an instruction ends does not depend on the requests that were logged before it. -/
theorem Logged.ends {s u : State} {next : Word} {r : Result} (hu : Logged s u) (h : Ends u next r) :
    Ends s next r := by
  obtain ⟨requests, rfl⟩ := hu
  obtain ⟨t, hr, hanswer, hpc, hclock, hmcause, hmepc, hmtval, hcfg, hmap⟩ | ⟨tr, more, hr⟩ := h
  · exact .inl ⟨t, hr, hanswer, hpc, hclock, hmcause, hmepc, hmtval, hcfg, hmap⟩
  · exact .inr ⟨tr, requests ++ more, by simp [hr, Trapped]⟩

/-- R501: a step retires at some next address, or it traps with nothing changed but the trap registers and the log. -/
theorem step_ends (s : State) : ∃ next, Ends { s with bus := [] } next (step s) := by
  obtain ⟨u, hu, ⟨tr, h⟩ | ⟨i, h⟩⟩ := step_cases s
  · exact ⟨s.pc, h ▸ hu.takeTrap_ends s.pc tr⟩
  · exact ⟨_, h ▸ hu.ends (exec_ends u i)⟩

/-- Settles O14: a step that answers `Err` has not retired, so it ended in a trap. -/
theorem trapsChangeOnlyTrapRegisters : Obligations.TrapsChangeOnlyTrapRegisters := by
  intro s t tr h herr
  obtain ⟨next, ⟨t', hnext, hretired⟩ | ⟨tr', requests, htrapped⟩⟩ := step_ends s
  · rw [hnext] at h
    obtain rfl := Host.Outcome.next.inj h
    exact nomatch hretired.answer.symm.trans herr
  · rw [htrapped] at h
    obtain rfl := Host.Outcome.next.inj h
    obtain rfl := Answer.err.inj herr
    exact ⟨rfl, rfl, rfl, rfl, rfl, rfl, rfl, rfl, rfl, rfl, rfl, rfl⟩

end Sys2Proof.Machine
end

section
/-!
SUPPORT. Every field of an instruction is a selection of bits (30_encoding.md R105, R106, R117, R118): a map that is
determined by its values on single bits. So that placing a field undoes reading it is checked bit by bit.
-/

namespace Sys2Proof

/-- A map of bits to bits that is determined by its values on single bits. -/
structure Bitwise {n m : Nat} (f : BitVec n → BitVec m) : Prop where
  zero : f 0#n = 0#m
  or : ∀ x y, f (x ||| y) = f x ||| f y

namespace Bitwise

theorem extract {n : Nat} (a len : Nat) : Bitwise fun w : BitVec n => w.extractLsb' a len :=
  ⟨by simp, fun x y => extract_or x y a len⟩

theorem place {k : Nat} (n lo : Nat) : Bitwise fun v : BitVec k => Sys2Proof.place n lo v :=
  ⟨by simp [Sys2Proof.place], fun x y => by
    rw [Sys2Proof.place, BitVec.setWidth_or, BitVec.shiftLeft_or_distrib]; rfl⟩

theorem mask {n : Nat} (m : BitVec n) : Bitwise fun w => w &&& m :=
  ⟨by simp, fun x y => by rw [BitVec.and_comm, BitVec.and_or_distrib_left, BitVec.and_comm m, BitVec.and_comm m]⟩

theorem zeros {n : Nat} (m : Nat) : Bitwise fun _ : BitVec n => 0#m := ⟨rfl, fun _ _ => BitVec.or_zero.symm⟩

section
variable {n m k : Nat} {f g : BitVec n → BitVec m} {h : BitVec m → BitVec k} {h' : BitVec n → BitVec k}

theorem comp (hh : Bitwise h) (hf : Bitwise f) : Bitwise fun w => h (f w) :=
  ⟨by rw [hf.zero, hh.zero], fun x y => by rw [hf.or, hh.or]⟩

theorem join (hf : Bitwise f) (hg : Bitwise g) : Bitwise fun w => f w ||| g w :=
  ⟨by rw [hf.zero, hg.zero, BitVec.or_zero], fun x y => by rw [hf.or, hg.or]; ac_rfl⟩

/-- One piece of a field: bits `a` to `a + len - 1`, placed at `lo`. -/
theorem piece (lo a len : Nat) : Bitwise fun w : BitVec n => Sys2Proof.place m lo (w.extractLsb' a len) :=
  (place m lo).comp (extract a len)

theorem append (hf : Bitwise f) (hh : Bitwise h') : Bitwise fun w => f w ++ h' w :=
  ⟨by rw [hf.zero, hh.zero, BitVec.zero_append_zero], fun x y => by rw [hf.or, hh.or]; exact BitVec.or_append.symm⟩

/-- Bitwise maps that agree on the single bits agree: by induction on the bits that may be set. -/
theorem ext (hf : Bitwise f) (hg : Bitwise g) (hbits : ∀ i : Fin n, f (BitVec.twoPow n i) = g (BitVec.twoPow n i))
    (w : BitVec n) : f w = g w := by
  suffices hbelow : ∀ k ≤ n, ∀ w : BitVec n, (∀ i, k ≤ i → w.getLsbD i = false) → f w = g w from
    hbelow n le_rfl w fun i hi => BitVec.getLsbD_of_ge w i hi
  intro k
  induction k with
  | zero =>
    intro _ w hw
    obtain rfl : w = 0#n := BitVec.eq_of_getLsbD_eq fun i _ => by rw [hw i (Nat.zero_le i), BitVec.getLsbD_zero]
    rw [hf.zero, hg.zero]
  | succ k ih =>
    intro hk w hw
    have hsplit : w = (w &&& ~~~BitVec.twoPow n k) ||| (w &&& BitVec.twoPow n k) := by
      rw [← BitVec.and_or_distrib_left, BitVec.or_comm, BitVec.or_not_self, BitVec.and_allOnes]
    have hrest : f (w &&& ~~~BitVec.twoPow n k) = g (w &&& ~~~BitVec.twoPow n k) := by
      refine ih (by omega) _ fun i hi => ?_
      by_cases hik : i = k
      · simp [hik]
      · simp [hw i (by omega)]
    have hbit : f (w &&& BitVec.twoPow n k) = g (w &&& BitVec.twoPow n k) := by
      rw [BitVec.and_twoPow]
      split
      · exact hbits ⟨k, hk⟩
      · rw [hf.zero, hg.zero]
    rw [hsplit, hf.or, hg.or, hrest, hbit]

end

end Bitwise

/-! ### Placing what was read from a word -/

theorem place_extract {n : Nat} (lo k : Nat) (w : BitVec n) :
    place n lo (w.extractLsb' lo k) = w &&& place n lo (BitVec.allOnes k) := by
  ext i hi
  rw [← BitVec.getLsbD_eq_getElem, ← BitVec.getLsbD_eq_getElem, getLsbD_place, BitVec.getLsbD_and, getLsbD_place]
  by_cases h : lo ≤ i
  · have e : lo + (i - lo) = i := by omega
    simp [e, hi, h, Bool.and_comm]
  · simp [h]

theorem ofBool_getLsbD {n : Nat} (w : BitVec n) (i : Nat) : BitVec.ofBool (w.getLsbD i) = w.extractLsb' i 1 := by
  ext j hj
  obtain rfl : j = 0 := by omega
  simp

theorem putRd_rdOf (w : Word) : putRd (rdOf w) = w &&& 0x00000f80#32 := place_extract 7 5 w
theorem putRs1_rs1Of (w : Word) : putRs1 (rs1Of w) = w &&& 0x000f8000#32 := place_extract 15 5 w
theorem putRs2_rs2Of (w : Word) : putRs2 (rs2Of w) = w &&& 0x01f00000#32 := place_extract 20 5 w
theorem putRs3_rs3Of (w : Word) : putRs3 (rs3Of w) = w &&& 0xf8000000#32 := place_extract 27 5 w
theorem putRm_rmOf (w : Word) : putRm (rmOf w) = w &&& 0x00007000#32 := place_extract 12 3 w
theorem putShamt_shamtOf (w : Word) : putShamt (shamtOf w) = w &&& 0x01f00000#32 := place_extract 20 5 w
theorem putCsr_csrOf (w : Word) : putCsr (csrOf w) = w &&& 0xfff00000#32 := place_extract 20 12 w
theorem putUimm_uimmOf (w : Word) : putUimm (uimmOf w) = w &&& 0x000f8000#32 := place_extract 15 5 w
theorem putFm_fmOf (w : Word) : putFm (fmOf w) = w &&& 0xf0000000#32 := place_extract 28 4 w
theorem putPred_predOf (w : Word) : putPred (predOf w) = w &&& 0x0f000000#32 := place_extract 24 4 w
theorem putSucc_succOf (w : Word) : putSucc (succOf w) = w &&& 0x00f00000#32 := place_extract 20 4 w
theorem putImmI_immI (w : Word) : putImmI (immI w) = w &&& 0xfff00000#32 := place_extract 20 12 w
theorem putImmU_immU (w : Word) : putImmU (immU w) = w &&& 0xfffff000#32 := place_extract 12 20 w
theorem putAq_aqOf (w : Word) : putAq (aqOf w) = w &&& 0x04000000#32 := by
  rw [putAq, aqOf, ofBool_getLsbD, place_extract]; rfl
theorem putRl_rlOf (w : Word) : putRl (rlOf w) = w &&& 0x02000000#32 := by
  rw [putRl, rlOf, ofBool_getLsbD, place_extract]; rfl
theorem putLow3_cLow3 (h : Half) : putLow3 (cLow3 h) = h &&& 0x001c#16 := place_extract 2 3 h
theorem putMid3_cMid3 (h : Half) : putMid3 (cMid3 h) = h &&& 0x0380#16 := place_extract 7 3 h
theorem putMid5_cMid5 (h : Half) : putMid5 (cMid5 h) = h &&& 0x0f80#16 := place_extract 7 5 h
theorem putLow5_cLow5 (h : Half) : putLow5 (cLow5 h) = h &&& 0x007c#16 := place_extract 2 5 h
theorem putCShamt_immCShamt (h : Half) : putCShamt (immCShamt h) = h &&& 0x007c#16 := place_extract 2 5 h

theorem immS_bitwise : Bitwise immS :=
  .append (.extract 25 7) (.extract 7 5)
theorem putImmS_bitwise : Bitwise putImmS :=
  .join (.piece 25 5 7) (.piece 7 0 5)
theorem immB_bitwise : Bitwise immB :=
  .append (.append (.append (.append (.extract 31 1) (.extract 7 1)) (.extract 25 6)) (.extract 8 4)) (.zeros 1)
theorem putImmB_bitwise : Bitwise putImmB :=
  .join (.join (.join (.piece 31 12 1) (.piece 7 11 1)) (.piece 25 5 6)) (.piece 8 1 4)
theorem immJ_bitwise : Bitwise immJ :=
  .append (.append (.append (.append (.extract 31 1) (.extract 12 8)) (.extract 20 1)) (.extract 21 10)) (.zeros 1)
theorem putImmJ_bitwise : Bitwise putImmJ :=
  .join (.join (.join (.piece 31 20 1) (.piece 12 12 8)) (.piece 20 11 1)) (.piece 21 1 10)
theorem immCAddi4spn_bitwise : Bitwise immCAddi4spn :=
  .append (.append (.append (.append (.extract 7 4) (.extract 11 2)) (.extract 5 1)) (.extract 6 1)) (.zeros 2)
theorem putCAddi4spn_bitwise : Bitwise putCAddi4spn :=
  .join (.join (.join (.piece 7 6 4) (.piece 11 4 2)) (.piece 5 3 1)) (.piece 6 2 1)
theorem immCWord_bitwise : Bitwise immCWord :=
  .append (.append (.append (.extract 5 1) (.extract 10 3)) (.extract 6 1)) (.zeros 2)
theorem putCWord_bitwise : Bitwise putCWord :=
  .join (.join (.piece 5 6 1) (.piece 10 3 3)) (.piece 6 2 1)
theorem immCDouble_bitwise : Bitwise immCDouble :=
  .append (.append (.extract 5 2) (.extract 10 3)) (.zeros 3)
theorem putCDouble_bitwise : Bitwise putCDouble :=
  .join (.piece 5 6 2) (.piece 10 3 3)
theorem immCImm6_bitwise : Bitwise immCImm6 :=
  .append (.extract 12 1) (.extract 2 5)
theorem putCImm6_bitwise : Bitwise putCImm6 :=
  .join (.piece 12 5 1) (.piece 2 0 5)
theorem immCLui_bitwise : Bitwise immCLui :=
  .append (.append (.extract 12 1) (.extract 2 5)) (.zeros 12)
theorem putCLui_bitwise : Bitwise putCLui :=
  .join (.piece 12 17 1) (.piece 2 12 5)
theorem immCAddi16sp_bitwise : Bitwise immCAddi16sp :=
  .append (.append (.append (.append (.append (.extract 12 1) (.extract 3 2)) (.extract 5 1)) (.extract 2 1))
    (.extract 6 1)) (.zeros 4)
theorem putCAddi16sp_bitwise : Bitwise putCAddi16sp :=
  .join (.join (.join (.join (.piece 12 9 1) (.piece 3 7 2)) (.piece 5 6 1)) (.piece 2 5 1)) (.piece 6 4 1)
theorem immCWordSp_bitwise : Bitwise immCWordSp :=
  .append (.append (.append (.extract 2 2) (.extract 12 1)) (.extract 4 3)) (.zeros 2)
theorem putCWordSp_bitwise : Bitwise putCWordSp :=
  .join (.join (.piece 2 6 2) (.piece 12 5 1)) (.piece 4 2 3)
theorem immCDoubleSp_bitwise : Bitwise immCDoubleSp :=
  .append (.append (.append (.extract 2 3) (.extract 12 1)) (.extract 5 2)) (.zeros 3)
theorem putCDoubleSp_bitwise : Bitwise putCDoubleSp :=
  .join (.join (.piece 2 6 3) (.piece 12 5 1)) (.piece 5 3 2)
theorem immCStoreWordSp_bitwise : Bitwise immCStoreWordSp :=
  .append (.append (.extract 7 2) (.extract 9 4)) (.zeros 2)
theorem putCStoreWordSp_bitwise : Bitwise putCStoreWordSp :=
  .join (.piece 7 6 2) (.piece 9 2 4)
theorem immCStoreDoubleSp_bitwise : Bitwise immCStoreDoubleSp :=
  .append (.append (.extract 7 3) (.extract 10 3)) (.zeros 3)
theorem putCStoreDoubleSp_bitwise : Bitwise putCStoreDoubleSp :=
  .join (.piece 7 6 3) (.piece 10 3 3)
theorem immCJump_bitwise : Bitwise immCJump :=
  .append (.append (.append (.append (.append (.append (.append (.append (.extract 12 1) (.extract 8 1))
    (.extract 9 2)) (.extract 6 1)) (.extract 7 1)) (.extract 2 1)) (.extract 11 1)) (.extract 3 3)) (.zeros 1)
theorem putCJump_bitwise : Bitwise putCJump :=
  .join (.join (.join (.join (.join (.join (.join (.piece 12 11 1) (.piece 8 10 1)) (.piece 9 8 2)) (.piece 6 7 1))
    (.piece 7 6 1)) (.piece 2 5 1)) (.piece 11 4 1)) (.piece 3 1 3)
theorem immCBranch_bitwise : Bitwise immCBranch :=
  .append (.append (.append (.append (.append (.extract 12 1) (.extract 5 2)) (.extract 2 1)) (.extract 10 2))
    (.extract 3 2)) (.zeros 1)
theorem putCBranch_bitwise : Bitwise putCBranch :=
  .join (.join (.join (.join (.piece 12 8 1) (.piece 5 6 2)) (.piece 2 5 1)) (.piece 10 3 2)) (.piece 3 1 2)

theorem putImmS_immS (w : Word) : putImmS (immS w) = w &&& 0xfe000f80#32 :=
  (putImmS_bitwise.comp immS_bitwise).ext (.mask _) (by decide +kernel) w
theorem putImmB_immB (w : Word) : putImmB (immB w) = w &&& 0xfe000f80#32 :=
  (putImmB_bitwise.comp immB_bitwise).ext (.mask _) (by decide +kernel) w
theorem putImmJ_immJ (w : Word) : putImmJ (immJ w) = w &&& 0xfffff000#32 :=
  (putImmJ_bitwise.comp immJ_bitwise).ext (.mask _) (by decide +kernel) w
theorem putCAddi4spn_immCAddi4spn (h : Half) : putCAddi4spn (immCAddi4spn h) = h &&& 0x1fe0#16 :=
  (putCAddi4spn_bitwise.comp immCAddi4spn_bitwise).ext (.mask _) (by decide +kernel) h
theorem putCWord_immCWord (h : Half) : putCWord (immCWord h) = h &&& 0x1c60#16 :=
  (putCWord_bitwise.comp immCWord_bitwise).ext (.mask _) (by decide +kernel) h
theorem putCDouble_immCDouble (h : Half) : putCDouble (immCDouble h) = h &&& 0x1c60#16 :=
  (putCDouble_bitwise.comp immCDouble_bitwise).ext (.mask _) (by decide +kernel) h
theorem putCImm6_immCImm6 (h : Half) : putCImm6 (immCImm6 h) = h &&& 0x107c#16 :=
  (putCImm6_bitwise.comp immCImm6_bitwise).ext (.mask _) (by decide +kernel) h
theorem putCLui_immCLui (h : Half) : putCLui (immCLui h) = h &&& 0x107c#16 :=
  (putCLui_bitwise.comp immCLui_bitwise).ext (.mask _) (by decide +kernel) h
theorem putCAddi16sp_immCAddi16sp (h : Half) : putCAddi16sp (immCAddi16sp h) = h &&& 0x107c#16 :=
  (putCAddi16sp_bitwise.comp immCAddi16sp_bitwise).ext (.mask _) (by decide +kernel) h
theorem putCWordSp_immCWordSp (h : Half) : putCWordSp (immCWordSp h) = h &&& 0x107c#16 :=
  (putCWordSp_bitwise.comp immCWordSp_bitwise).ext (.mask _) (by decide +kernel) h
theorem putCDoubleSp_immCDoubleSp (h : Half) : putCDoubleSp (immCDoubleSp h) = h &&& 0x107c#16 :=
  (putCDoubleSp_bitwise.comp immCDoubleSp_bitwise).ext (.mask _) (by decide +kernel) h
theorem putCStoreWordSp_immCStoreWordSp (h : Half) : putCStoreWordSp (immCStoreWordSp h) = h &&& 0x1f80#16 :=
  (putCStoreWordSp_bitwise.comp immCStoreWordSp_bitwise).ext (.mask _) (by decide +kernel) h
theorem putCStoreDoubleSp_immCStoreDoubleSp (h : Half) : putCStoreDoubleSp (immCStoreDoubleSp h) = h &&& 0x1f80#16 :=
  (putCStoreDoubleSp_bitwise.comp immCStoreDoubleSp_bitwise).ext (.mask _) (by decide +kernel) h
theorem putCJump_immCJump (h : Half) : putCJump (immCJump h) = h &&& 0x1ffc#16 :=
  (putCJump_bitwise.comp immCJump_bitwise).ext (.mask _) (by decide +kernel) h
theorem putCBranch_immCBranch (h : Half) : putCBranch (immCBranch h) = h &&& 0x1c7c#16 :=
  (putCBranch_bitwise.comp immCBranch_bitwise).ext (.mask _) (by decide +kernel) h

end Sys2Proof
end

section
/-!
PROOFS. Decoding and encoding agree (30_encoding.md sections 1 to 5): the row of the table that accepts an
encoding reads back what was placed, and what a row reads from a word is placed back as it stood.
-/

namespace Sys2Proof

/-! ### Reading what was placed -/

theorem regBits_toFin (r : Fin 32) : (regBits r).toFin = r := rfl

theorem smallRegBits_toFin (r : Fin 8) : (smallRegBits r).toFin = r := rfl

theorem aqOf_eq (w : Word) : aqOf w = (w.extractLsb' 26 1).getLsbD 0 := by simp [aqOf]

theorem rlOf_eq (w : Word) : rlOf w = (w.extractLsb' 25 1).getLsbD 0 := by simp [rlOf]

theorem or_mask {n : Nat} (x y m : BitVec n) : (x ||| y) &&& m = x &&& m ||| y &&& m := (Bitwise.mask m).or x y

/-- A field placed where a mask has every bit passes the mask. -/
theorem place_and_cover {k n lo : Nat} {mask : BitVec n} (v : BitVec k)
    (h : place n lo (BitVec.allOnes k) &&& ~~~mask = 0#n) : place n lo v &&& mask = place n lo v := by
  have hout := place_and_mask v h
  have hsplit : place n lo v &&& (mask ||| ~~~mask) = place n lo v := by
    rw [BitVec.or_not_self, BitVec.and_allOnes]
  rwa [BitVec.and_or_distrib_left, hout, BitVec.or_zero] at hsplit

/-- A multiple of `2 ^ lo` has its `lo` low bits clear. -/
theorem mask_of_multipleOf {n : Nat} {v m : BitVec n} (lo : Nat) (h : multipleOf (2 ^ lo) v = true)
    (hm : m = BitVec.allOnes n <<< lo) : v &&& m = v := by
  subst hm
  obtain ⟨q, hq⟩ := Nat.dvd_of_mod_eq_zero (beq_iff_eq.1 h)
  ext i hi
  have hbit : i < lo → v[i] = false := fun hlt => by
    rw [← BitVec.getLsbD_eq_getElem, BitVec.getLsbD, hq, Nat.testBit_two_pow_mul]
    simp [hlt]
  by_cases hlt : i < lo <;> simp [hlt, hbit]

theorem multipleOf_append_zeros {n : Nat} (v : BitVec n) (lo : Nat) : multipleOf (2 ^ lo) (v ++ 0#lo) = true := by
  have h : (v ++ 0#lo).toNat = v.toNat * 2 ^ lo := by
    rw [BitVec.toNat_append, BitVec.toNat_zero, Nat.or_zero, Nat.shiftLeft_eq]
  rw [multipleOf, h, Nat.mul_mod_left]
  rfl

theorem immS_putImmS (v : BitVec 12) : immS (putImmS v) = v :=
  ((immS_bitwise.comp putImmS_bitwise).ext (.mask (BitVec.allOnes 12)) (by decide +kernel) v).trans BitVec.and_allOnes
theorem immCImm6_putCImm6 (v : BitVec 6) : immCImm6 (putCImm6 v) = v :=
  ((immCImm6_bitwise.comp putCImm6_bitwise).ext (.mask (BitVec.allOnes 6)) (by decide +kernel) v).trans
    BitVec.and_allOnes
theorem immB_putImmB {v : BitVec 13} (h : multipleOf 2 v = true) : immB (putImmB v) = v :=
  ((immB_bitwise.comp putImmB_bitwise).ext (.mask _) (by decide +kernel) v).trans (mask_of_multipleOf 1 h rfl)
theorem immJ_putImmJ {v : BitVec 21} (h : multipleOf 2 v = true) : immJ (putImmJ v) = v :=
  ((immJ_bitwise.comp putImmJ_bitwise).ext (.mask _) (by decide +kernel) v).trans (mask_of_multipleOf 1 h rfl)
theorem immCAddi4spn_putCAddi4spn {v : BitVec 10} (h : multipleOf 4 v = true) : immCAddi4spn (putCAddi4spn v) = v :=
  ((immCAddi4spn_bitwise.comp putCAddi4spn_bitwise).ext (.mask _)
    (by decide +kernel) v).trans (mask_of_multipleOf 2 h rfl)
theorem immCWord_putCWord {v : BitVec 7} (h : multipleOf 4 v = true) : immCWord (putCWord v) = v :=
  ((immCWord_bitwise.comp putCWord_bitwise).ext (.mask _) (by decide +kernel) v).trans (mask_of_multipleOf 2 h rfl)
theorem immCDouble_putCDouble {v : BitVec 8} (h : multipleOf 8 v = true) : immCDouble (putCDouble v) = v :=
  ((immCDouble_bitwise.comp putCDouble_bitwise).ext (.mask _)
    (by decide +kernel) v).trans (mask_of_multipleOf 3 h rfl)
theorem immCLui_putCLui {v : BitVec 18} (h : multipleOf 4096 v = true) : immCLui (putCLui v) = v :=
  ((immCLui_bitwise.comp putCLui_bitwise).ext (.mask _) (by decide +kernel) v).trans (mask_of_multipleOf 12 h rfl)
theorem immCAddi16sp_putCAddi16sp {v : BitVec 10} (h : multipleOf 16 v = true) : immCAddi16sp (putCAddi16sp v) = v :=
  ((immCAddi16sp_bitwise.comp putCAddi16sp_bitwise).ext (.mask _)
    (by decide +kernel) v).trans (mask_of_multipleOf 4 h rfl)
theorem immCWordSp_putCWordSp {v : BitVec 8} (h : multipleOf 4 v = true) : immCWordSp (putCWordSp v) = v :=
  ((immCWordSp_bitwise.comp putCWordSp_bitwise).ext (.mask _)
    (by decide +kernel) v).trans (mask_of_multipleOf 2 h rfl)
theorem immCDoubleSp_putCDoubleSp {v : BitVec 9} (h : multipleOf 8 v = true) : immCDoubleSp (putCDoubleSp v) = v :=
  ((immCDoubleSp_bitwise.comp putCDoubleSp_bitwise).ext (.mask _)
    (by decide +kernel) v).trans (mask_of_multipleOf 3 h rfl)
theorem immCStoreWordSp_putCStoreWordSp {v : BitVec 8} (h : multipleOf 4 v = true) :
    immCStoreWordSp (putCStoreWordSp v) = v :=
  ((immCStoreWordSp_bitwise.comp putCStoreWordSp_bitwise).ext (.mask _)
    (by decide +kernel) v).trans (mask_of_multipleOf 2 h rfl)
theorem immCStoreDoubleSp_putCStoreDoubleSp {v : BitVec 9} (h : multipleOf 8 v = true) :
    immCStoreDoubleSp (putCStoreDoubleSp v) = v :=
  ((immCStoreDoubleSp_bitwise.comp putCStoreDoubleSp_bitwise).ext (.mask _)
    (by decide +kernel) v).trans (mask_of_multipleOf 3 h rfl)
theorem immCJump_putCJump {v : BitVec 12} (h : multipleOf 2 v = true) : immCJump (putCJump v) = v :=
  ((immCJump_bitwise.comp putCJump_bitwise).ext (.mask _) (by decide +kernel) v).trans (mask_of_multipleOf 1 h rfl)
theorem immCBranch_putCBranch {v : BitVec 9} (h : multipleOf 2 v = true) : immCBranch (putCBranch v) = v :=
  ((immCBranch_bitwise.comp putCBranch_bitwise).ext (.mask _)
    (by decide +kernel) v).trans (mask_of_multipleOf 1 h rfl)
theorem immB_multiple (w : Word) : multipleOf 2 (immB w) = true := multipleOf_append_zeros _ 1
theorem immJ_multiple (w : Word) : multipleOf 2 (immJ w) = true := multipleOf_append_zeros _ 1
theorem immCAddi4spn_multiple (h : Half) : multipleOf 4 (immCAddi4spn h) = true := multipleOf_append_zeros _ 2
theorem immCWord_multiple (h : Half) : multipleOf 4 (immCWord h) = true := multipleOf_append_zeros _ 2
theorem immCDouble_multiple (h : Half) : multipleOf 8 (immCDouble h) = true := multipleOf_append_zeros _ 3
theorem immCLui_multiple (h : Half) : multipleOf 4096 (immCLui h) = true := multipleOf_append_zeros _ 12
theorem immCAddi16sp_multiple (h : Half) : multipleOf 16 (immCAddi16sp h) = true := multipleOf_append_zeros _ 4
theorem immCWordSp_multiple (h : Half) : multipleOf 4 (immCWordSp h) = true := multipleOf_append_zeros _ 2
theorem immCDoubleSp_multiple (h : Half) : multipleOf 8 (immCDoubleSp h) = true := multipleOf_append_zeros _ 3
theorem immCStoreWordSp_multiple (h : Half) : multipleOf 4 (immCStoreWordSp h) = true := multipleOf_append_zeros _ 2
theorem immCStoreDoubleSp_multiple (h : Half) : multipleOf 8 (immCStoreDoubleSp h) = true := multipleOf_append_zeros _ 3
theorem immCJump_multiple (h : Half) : multipleOf 2 (immCJump h) = true := multipleOf_append_zeros _ 1
theorem immCBranch_multiple (h : Half) : multipleOf 2 (immCBranch h) = true := multipleOf_append_zeros _ 1

/-! ### Fields that must not hold a value (R121) -/

theorem place_injective {k n lo : Nat} (h : lo + k ≤ n) {u v : BitVec k} (he : place n lo u = place n lo v) :
    u = v := by
  rw [← extract_place_same h u, he, extract_place_same h v]

theorem putMid5_ne {r k : Fin 32} (h : (r != k) = true) : putMid5 r ≠ putMid5 k := fun he =>
  bne_iff_ne.1 h (BitVec.ofFin.inj (place_injective (by decide) he))

theorem putLow5_ne {r k : Fin 32} (h : (r != k) = true) : putLow5 r ≠ putLow5 k := fun he =>
  bne_iff_ne.1 h (BitVec.ofFin.inj (place_injective (by decide) he))

/-- What a non-zero field places is not zero, if it can be read back. -/
theorem put_ne_zero {n m : Nat} {v : BitVec m} {put : BitVec m → BitVec n} {get : BitVec n → BitVec m}
    (hget : Bitwise get) (hread : get (put v) = v) (h : nonzero v = true) : put v ≠ 0#n := fun he =>
  bne_iff_ne.1 h (by rw [← hread, he, hget.zero])

/-! ### The row of an instruction -/

theorem selectRow_word_at {i j : Instr} {r : Row 32} {w : Word} (hj : j = i) (hr : rows32[i.ctorIdx]? = some r)
    (hc : r.cond = i.cond) (hq : r.require = []) (hm : w &&& r.mask = r.value) (hb : r.build w = j) :
    selectRow (.word w) = some (i.cond, i) := by
  have ha : r.accepts w = true := (Row.accepts_iff r w).2 ⟨hm, hq ▸ List.forall_mem_nil _⟩
  rw [selectRow_word (List.mem_of_getElem? hr) ha, hb, hc, hj]

/-- `x` is what a field that a `require` entry names holds. -/
theorem selectRow_half_at {i j : Instr} {r : Row 16} {h : Half} (hj : j = i)
    (hr : rows16[i.ctorIdx - rows32.length]? = some r) (hc : r.cond = i.cond)
    (hq : ∀ c ∈ r.require, ∃ x, x ≠ c.2 ∧ h &&& c.1 = x) (hm : h &&& r.mask = r.value) (hb : r.build h = j) :
    selectRow (.half h) = some (i.cond, i) := by
  have hne : ∀ c ∈ r.require, h &&& c.1 ≠ c.2 := fun c hcr => by
    obtain ⟨x, hx, he⟩ := hq c hcr
    rwa [he]
  rw [selectRow_half (List.mem_of_getElem? hr) ((Row.accepts_iff r h).2 ⟨hm, hne⟩), hb, hc, hj]

/-- Read field by field: the mask of the row sees the row's own bits only,
  and each field sees what was placed there. -/
theorem selectRow_encode_word {i : Instr} {w : Word} (h : i.wellFormed = true) (hw : encode i = .word w) :
    selectRow (.word w) = some (i.cond, i) := by
  cases i
  case cAddi4spn | cFld | cLw | cFlw | cFsd | cSw | cFsw | cNop | cAddi | cJal | cLi | cAddi16sp | cLui | cSrli |
  cSrai | cAndi | cSub | cXor | cOr | cAnd | cJ | cBeqz | cBnez | cSlli | cFldsp | cLwsp | cFlwsp | cJr | cMv |
  cEbreak | cJalr | cAdd | cFsdsp | cSwsp | cFswsp => cases hw
  all_goals cases hw
  case' jal => refine selectRow_word_at (congrArg _ (immJ_putImmJ h)) rfl rfl rfl ?_ ?_
  case' beq | bne | blt | bge | bltu | bgeu =>
    refine selectRow_word_at (congrArg _ (immB_putImmB h)) rfl rfl rfl ?_ ?_
  case' sb | sh | sw | fsw | fsd => refine selectRow_word_at (congrArg _ (immS_putImmS _)) rfl rfl rfl ?_ ?_
  case' lui | auipc | addi | slti | sltiu | xori | ori | andi | slli | srli | srai | add | sub | sll | slt | sltu |
  xor | srl | sra | or | and | mul | mulh | mulhsu | mulhu | div | divu | rem | remu | jalr | lb | lh | lw | lbu |
  lhu | lrW | scW | amoswapW | amoaddW | amoxorW | amoandW | amoorW | amominW | amomaxW | amominuW | amomaxuW |
  fence | fenceI | ecall | ebreak | wfi | csrrw | csrrs | csrrc | csrrwi | csrrsi | csrrci | flw | fmaddS |
  fmsubS | fnmsubS | fnmaddS | faddS | fsubS | fmulS | fdivS | fsqrtS | fsgnjS | fsgnjnS | fsgnjxS | fminS |
  fmaxS | fcvtWS | fcvtWuS | fmvXW | feqS | fltS | fleS | fclassS | fcvtSW | fcvtSWu | fmvWX | fld | fmaddD |
  fmsubD | fnmsubD | fnmaddD | faddD | fsubD | fmulD | fdivD | fsqrtD | fsgnjD | fsgnjnD | fsgnjxD | fminD |
  fmaxD | fcvtSD | fcvtDS | feqD | fltD | fleD | fclassD | fcvtWD | fcvtWuD | fcvtDW | fcvtDWu =>
    refine selectRow_word_at rfl rfl rfl rfl ?_ ?_
  all_goals
    simp (disch := decide) only [
      or_mask, place_and_mask, BitVec.or_zero, BitVec.zero_or, BitVec.reduceAnd, extract_or, extract_place_same,
      extract_place_below, extract_place_above, BitVec.reduceExtractLsb', regBits_toFin, BitVec.getLsbD_ofBool,
      decide_true, Bool.true_and, rdOf, rs1Of, rs2Of, rs3Of, rmOf, shamtOf, csrOf, uimmOf, aqOf_eq, rlOf_eq, fmOf,
      predOf, succOf, immI, immU, immS, immB, immJ, regField, putRd, putRs1, putRs2, putRs3, putRm, putShamt,
      putCsr, putUimm, putAq, putRl, putFm, putPred, putSucc, putImmI, putImmU, putImmS, putImmB, putImmJ]

/-- The same for the 16-bit formats, where some fields must not hold some value. -/
theorem selectRow_encode_half {i : Instr} {c : Half} (h : i.wellFormed = true) (hc : encode i = .half c) :
    selectRow (.half c) = some (i.cond, i) := by
  cases i
  case lui | auipc | addi | slti | sltiu | xori | ori | andi | slli | srli | srai | add | sub | sll | slt | sltu |
  xor | srl | sra | or | and | mul | mulh | mulhsu | mulhu | div | divu | rem | remu | jal | jalr | beq | bne |
  blt | bge | bltu | bgeu | lb | lh | lw | lbu | lhu | sb | sh | sw | lrW | scW | amoswapW | amoaddW | amoxorW |
  amoandW | amoorW | amominW | amomaxW | amominuW | amomaxuW | fence | fenceI | ecall | ebreak | wfi | csrrw |
  csrrs | csrrc | csrrwi | csrrsi | csrrci | flw | fsw | fmaddS | fmsubS | fnmsubS | fnmaddS | faddS | fsubS |
  fmulS | fdivS | fsqrtS | fsgnjS | fsgnjnS | fsgnjxS | fminS | fmaxS | fcvtWS | fcvtWuS | fmvXW | feqS | fltS |
  fleS | fclassS | fcvtSW | fcvtSWu | fmvWX | fld | fsd | fmaddD | fmsubD | fnmsubD | fnmaddD | faddD | fsubD |
  fmulD | fdivD | fsqrtD | fsgnjD | fsgnjnD | fsgnjxD | fminD | fmaxD | fcvtSD | fcvtDS | feqD | fltD | fleD |
  fclassD | fcvtWD | fcvtWuD | fcvtDW | fcvtDWu => cases hc
  all_goals cases hc
  case' cAddi4spn =>
    obtain ⟨hn, hm⟩ := Bool.and_eq_true_iff.1 h
    refine selectRow_half_at (congrArg _ (immCAddi4spn_putCAddi4spn hm)) rfl rfl (List.forall_mem_singleton.2 ⟨_,
      put_ne_zero immCAddi4spn_bitwise (immCAddi4spn_putCAddi4spn hm) hn, ?_⟩) ?_ ?_
  case' cAddi16sp =>
    obtain ⟨hn, hm⟩ := Bool.and_eq_true_iff.1 h
    refine selectRow_half_at (congrArg _ (immCAddi16sp_putCAddi16sp hm)) rfl rfl (List.forall_mem_singleton.2 ⟨_,
      put_ne_zero immCAddi16sp_bitwise (immCAddi16sp_putCAddi16sp hm) hn, ?_⟩) ?_ ?_
  case' cLui =>
    obtain ⟨hrn, hm⟩ := Bool.and_eq_true_iff.1 h
    obtain ⟨hr, hn⟩ := Bool.and_eq_true_iff.1 hrn
    refine selectRow_half_at (congrArg _ (immCLui_putCLui hm)) rfl rfl (List.forall_mem_cons.2 ⟨⟨_, putMid5_ne hr,
      ?_⟩,
      List.forall_mem_singleton.2 ⟨_, put_ne_zero immCLui_bitwise (immCLui_putCLui hm) hn, ?_⟩⟩) ?_ ?_
  case' cFld | cFsd =>
    refine selectRow_half_at (congrArg _ (immCDouble_putCDouble h)) rfl rfl (List.forall_mem_nil _) ?_ ?_
  case' cLw | cFlw | cSw | cFsw =>
    refine selectRow_half_at (congrArg _ (immCWord_putCWord h)) rfl rfl (List.forall_mem_nil _) ?_ ?_
  case' cAddi =>
    refine selectRow_half_at (congrArg _ (immCImm6_putCImm6 _)) rfl rfl (List.forall_mem_singleton.2 ⟨_,
      putMid5_ne h, ?_⟩) ?_ ?_
  case' cNop | cLi | cAndi =>
    refine selectRow_half_at (congrArg _ (immCImm6_putCImm6 _)) rfl rfl (List.forall_mem_nil _) ?_ ?_
  case' cJal | cJ =>
    refine selectRow_half_at (congrArg _ (immCJump_putCJump h)) rfl rfl (List.forall_mem_nil _) ?_ ?_
  case' cBeqz | cBnez =>
    refine selectRow_half_at (congrArg _ (immCBranch_putCBranch h)) rfl rfl (List.forall_mem_nil _) ?_ ?_
  case' cFldsp =>
    refine selectRow_half_at (congrArg _ (immCDoubleSp_putCDoubleSp h)) rfl rfl (List.forall_mem_nil _) ?_ ?_
  case' cLwsp =>
    obtain ⟨hr, hm⟩ := Bool.and_eq_true_iff.1 h
    refine selectRow_half_at (congrArg _ (immCWordSp_putCWordSp hm)) rfl rfl (List.forall_mem_singleton.2 ⟨_,
      putMid5_ne hr, ?_⟩) ?_ ?_
  case' cFlwsp =>
    refine selectRow_half_at (congrArg _ (immCWordSp_putCWordSp h)) rfl rfl (List.forall_mem_nil _) ?_ ?_
  case' cFsdsp =>
    refine selectRow_half_at (congrArg _ (immCStoreDoubleSp_putCStoreDoubleSp h)) rfl rfl (List.forall_mem_nil _) ?_ ?_
  case' cSwsp | cFswsp =>
    refine selectRow_half_at (congrArg _ (immCStoreWordSp_putCStoreWordSp h)) rfl rfl (List.forall_mem_nil _) ?_ ?_
  case' cJr | cJalr =>
    refine selectRow_half_at rfl rfl rfl (List.forall_mem_singleton.2 ⟨_, putMid5_ne h, ?_⟩) ?_ ?_
  case' cMv | cAdd => refine selectRow_half_at rfl rfl rfl (List.forall_mem_singleton.2 ⟨_, putLow5_ne h, ?_⟩) ?_ ?_
  case' cSrli | cSrai | cSub | cXor | cOr | cAnd | cSlli | cEbreak =>
    refine selectRow_half_at rfl rfl rfl (List.forall_mem_nil _) ?_ ?_
  all_goals
    simp (disch := decide) only [
      or_mask, place_and_mask, place_and_cover, BitVec.or_zero, BitVec.zero_or, BitVec.reduceAnd, extract_or,
      extract_place_same, extract_place_below, extract_place_above, BitVec.reduceExtractLsb', regBits_toFin,
      smallRegBits_toFin, cLow3, cMid3, cMid5, cLow5, immCShamt, immCImm6, immCAddi4spn, immCWord, immCDouble,
      immCLui, immCAddi16sp, immCWordSp, immCDoubleSp, immCStoreWordSp, immCStoreDoubleSp, immCJump, immCBranch,
      regField, smallRegField, putLow3, putMid3, putMid5, putLow5, putCShamt, putCImm6, putCAddi4spn, putCWord,
      putCDouble, putCLui, putCAddi16sp, putCWordSp, putCDoubleSp, putCStoreWordSp, putCStoreDoubleSp, putCJump,
      putCBranch]

theorem selectRow_encode {i : Instr} (h : i.wellFormed = true) : selectRow (encode i) = some (i.cond, i) := by
  cases hc : encode i with
  | word w => exact selectRow_encode_word h hc
  | half c => exact selectRow_encode_half h hc

/-- Settles O1: the row of the table with the instruction's number accepts the encoding and reads the operands back. -/
theorem decodeEncode : Obligations.DecodeEncode := by
  intro cfg i hwf hen
  rw [decode_of_selectRow (selectRow_encode hwf)]
  exact if_pos hen

/-! ### Placing back what a row read -/

/-- What the row reads from a word it accepts is well formed, belongs to the row's extension and encodes the word. -/
def Row.Sound {n : Nat} (code : BitVec n → Code) (r : Row n) : Prop :=
  ∀ w, r.accepts w = true →
    (r.build w).wellFormed = true ∧ (r.build w).cond = r.cond ∧ encode (r.build w) = code w

/-- It is enough that the row's fields take up, as they stand, all bits that the row leaves open. -/
theorem Row.sound_of {n : Nat} {code : BitVec n → Code} {r : Row n} (hcond : ∀ w, (r.build w).cond = r.cond)
    (hwf : ∀ w, (∀ c ∈ r.require, w &&& c.1 ≠ c.2) → (r.build w).wellFormed = true)
    (henc : ∀ w, encode (r.build w) = code (r.value ||| (w &&& ~~~r.mask))) : r.Sound code := by
  intro w ha
  obtain ⟨hv, hq⟩ := (Row.accepts_iff r w).1 ha
  refine ⟨hwf w hq, hcond w, ?_⟩
  rw [henc, ← hv, ← BitVec.and_or_distrib_left, BitVec.or_not_self, BitVec.and_allOnes]

/-! ### What a `require` entry says of the field it names (R121) -/

theorem bne_eq_of_iff {α β : Type} [DecidableEq α] [DecidableEq β] {a b : α} {c d : β} (h : a = b ↔ c = d) :
    (a != b) = (c != d) := by
  simp [bne, Bool.beq_eq_decide_eq, h]

theorem cMid5_bne (h : Half) (k : Fin 32) : (cMid5 h != k) = (h &&& 0x0f80#16 != putMid5 k) :=
  bne_eq_of_iff (by
    rw [← putMid5_cMid5]
    exact ⟨congrArg _, fun he => not_not.1 fun hne => putMid5_ne (bne_iff_ne.2 hne) he⟩)

theorem cLow5_bne (h : Half) (k : Fin 32) : (cLow5 h != k) = (h &&& 0x007c#16 != putLow5 k) :=
  bne_eq_of_iff (by
    rw [← putLow5_cLow5]
    exact ⟨congrArg _, fun he => not_not.1 fun hne => putLow5_ne (bne_iff_ne.2 hne) he⟩)

theorem nonzero_field {n m : Nat} {put : BitVec m → BitVec n} {get : BitVec n → BitVec m} {w : BitVec n}
    (hget : Bitwise get) (hput : Bitwise put) (hread : get (put (get w)) = get w) :
    nonzero (get w) = (put (get w) != 0#n) :=
  bne_eq_of_iff ⟨fun he => by rw [he, hput.zero], fun he => by rw [← hread, he, hget.zero]⟩

theorem nonzero_immCAddi4spn (h : Half) : nonzero (immCAddi4spn h) = (h &&& 0x1fe0#16 != 0#16) := by
  rw [← putCAddi4spn_immCAddi4spn]
  exact nonzero_field immCAddi4spn_bitwise putCAddi4spn_bitwise (immCAddi4spn_putCAddi4spn (immCAddi4spn_multiple h))

theorem nonzero_immCAddi16sp (h : Half) : nonzero (immCAddi16sp h) = (h &&& 0x107c#16 != 0#16) := by
  rw [← putCAddi16sp_immCAddi16sp]
  exact nonzero_field immCAddi16sp_bitwise putCAddi16sp_bitwise (immCAddi16sp_putCAddi16sp (immCAddi16sp_multiple h))

theorem nonzero_immCLui (h : Half) : nonzero (immCLui h) = (h &&& 0x107c#16 != 0#16) := by
  rw [← putCLui_immCLui]
  exact nonzero_field immCLui_bitwise putCLui_bitwise (immCLui_putCLui (immCLui_multiple h))

theorem putMid5_zero : putMid5 0 = 0x0000#16 := rfl
theorem putMid5_two : putMid5 2 = 0x0100#16 := rfl
theorem putLow5_zero : putLow5 0 = 0x0000#16 := rfl

/-! ### Every row -/

theorem rows32_sound : ∀ r ∈ rows32, r.Sound Code.word := by
  simp only [
    rows32, rowsIntegerImm, rowsIntegerReg, rowsMulDiv, rowsControl, rowsLoadStore, rowsAtomic, rowsSystem,
    rowsFFused, rowsFArith, rowsFConvert, rowsDFused, rowsDArith, rowsDConvert, List.forall_mem_append,
    List.forall_mem_cons, List.not_mem_nil, IsEmpty.forall_iff, implies_true, and_true]
  and_intros
  all_goals
    refine Row.sound_of (fun _ => rfl) (fun w _ => ?_) (fun w => ?_)
    rotate_left
    simp only [encode, putRd_rdOf, putRs1_rs1Of, putRs2_rs2Of, putRs3_rs3Of, putRm_rmOf, putShamt_shamtOf,
      putCsr_csrOf, putUimm_uimmOf, putAq_aqOf, putRl_rlOf, putFm_fmOf, putPred_predOf, putSucc_succOf,
      putImmI_immI, putImmU_immU, putImmS_immS, putImmB_immB, putImmJ_immJ, BitVec.or_assoc,
      ← BitVec.and_or_distrib_left, BitVec.reduceOr, BitVec.reduceNot, BitVec.and_zero, BitVec.or_zero]
  all_goals simp only [Instr.wellFormed, immB_multiple, immJ_multiple]

theorem rows16_sound : ∀ r ∈ rows16, r.Sound Code.half := by
  simp only [rows16, rows16Quadrant0, rows16Quadrant1, rows16Quadrant2, List.forall_mem_append, List.forall_mem_cons,
    List.not_mem_nil, IsEmpty.forall_iff, implies_true, and_true]
  and_intros
  all_goals
    refine Row.sound_of (fun _ => rfl) (fun h hq => ?_) (fun h => ?_)
    rotate_left
    simp only [encode, putLow3_cLow3, putMid3_cMid3, putMid5_cMid5, putLow5_cLow5, putCShamt_immCShamt,
      putCAddi4spn_immCAddi4spn, putCWord_immCWord, putCDouble_immCDouble, putCImm6_immCImm6, putCLui_immCLui,
      putCAddi16sp_immCAddi16sp, putCWordSp_immCWordSp, putCDoubleSp_immCDoubleSp, putCStoreWordSp_immCStoreWordSp,
      putCStoreDoubleSp_immCStoreDoubleSp, putCJump_immCJump, putCBranch_immCBranch, BitVec.or_assoc,
      ← BitVec.and_or_distrib_left, BitVec.reduceOr, BitVec.reduceNot, BitVec.and_zero, BitVec.or_zero,
      BitVec.zero_or]
  all_goals
    simp only [List.forall_mem_cons, List.not_mem_nil, IsEmpty.forall_iff, implies_true, and_true] at hq
    simp only [Instr.wellFormed, immCAddi4spn_multiple, immCWord_multiple, immCDouble_multiple, immCLui_multiple,
      immCAddi16sp_multiple, immCWordSp_multiple, immCDoubleSp_multiple, immCStoreWordSp_multiple,
      immCStoreDoubleSp_multiple, immCJump_multiple, immCBranch_multiple, cMid5_bne, cLow5_bne,
      nonzero_immCAddi4spn, nonzero_immCAddi16sp, nonzero_immCLui, putMid5_zero, putMid5_two, putLow5_zero,
      bne_iff_ne, Bool.and_true, Bool.and_eq_true]
  all_goals exact hq

/-- What decoding selects comes from a row that accepts the bits. -/
theorem selectRow_sound {c : Code} {k : When} {i : Instr} (h : selectRow c = some (k, i)) :
    i.wellFormed = true ∧ i.cond = k ∧ encode i = c := by
  cases c with
  | half c =>
    obtain ⟨r, hr, hi⟩ := Option.map_eq_some_iff.1 h
    cases hi
    exact rows16_sound r (List.mem_of_find?_eq_some hr) c (List.find?_some (p := fun r : Row 16 => r.accepts c) hr)
  | word w =>
    obtain ⟨r, hr, hi⟩ := Option.map_eq_some_iff.1 h
    cases hi
    exact rows32_sound r (List.mem_of_find?_eq_some hr) w (List.find?_some (p := fun r : Row 32 => r.accepts w) hr)

/-- Decoding succeeds with the selected row's instruction where the parameters provide the row (R103). -/
theorem decode_eq_ok {cfg : Config} {c : Code} {i : Instr} (h : decode cfg c = .ok i) :
    ∃ k, selectRow c = some (k, i) ∧ cfg.provides k = true := by
  cases hs : selectRow c with
  | none => rw [decode_of_selectRow_none hs] at h; cases h
  | some p =>
    rw [decode_of_selectRow hs] at h
    split at h
    · cases h; exact ⟨p.1, rfl, ‹_›⟩
    · cases h

/-- Settles O2: whatever a row reads from a word it accepts, placed back, is the word. -/
theorem encodeDecode : Obligations.EncodeDecode := by
  intro cfg c i h
  obtain ⟨k, hs, hp⟩ := decode_eq_ok h
  obtain ⟨hwf, hcond, henc⟩ := selectRow_sound hs
  exact ⟨hwf, (congrArg cfg.provides hcond).trans hp, henc⟩

theorem decode_encode_disabled {cfg : Config} {i : Instr} (hwf : i.wellFormed = true) (hen : i.enabled cfg = false) :
    decode cfg (encode i) = .error (.extensionOff (encode i).raw) := by
  rw [decode_of_selectRow (selectRow_encode hwf)]
  exact if_neg (ne_true_of_eq_false hen)

theorem enabled_iff (cfg : Config) (i : Instr) :
    i.enabled cfg = true ↔ (i.cond = .rv32fd ∨ i.cond = .rv32cAndFd → cfg.rv32fd = true) ∧
      (i.cond = .rv32c ∨ i.cond = .rv32cAndFd → cfg.rv32c = true) := by
  unfold Instr.enabled Config.provides
  cases i.cond <;> simp [and_comm]

/-- Settles O3: the row is selected whatever the parameters, and they are asked afterwards. -/
theorem disabledExtensionIsIllegal : Obligations.DisabledExtensionIsIllegal := fun cfg =>
  ⟨fun _ hwf hen => decode_encode_disabled hwf hen, fun c i h => (enabled_iff cfg i).1 (encodeDecode cfg c i h).2.1⟩

end Sys2Proof
end

section
/-!
PROOFS. The step around the execution of its instruction (60_exceptions.md R500 items 1 to 4, R506, R507, R517):
fetching, its traps, and how a host skips a trapped instruction.
-/

namespace Sys2Proof

/-! ### What decodes has told its length (R100, R101) -/

/-- A row that fixes the two low bits tells them of every word it accepts. -/
theorem Row.low_of_accepts {n : Nat} {r : Row n} {w : BitVec n} (hm : r.mask.extractLsb' 0 2 = BitVec.allOnes 2)
    (ha : r.accepts w = true) : w.extractLsb' 0 2 = r.value.extractLsb' 0 2 := by
  obtain ⟨hv, -⟩ := (Row.accepts_iff r w).1 ha
  rw [← hv, BitVec.extractLsb'_and, hm, BitVec.and_allOnes]

theorem rows32_low : ∀ r ∈ rows32, r.mask.extractLsb' 0 2 = BitVec.allOnes 2 ∧ r.value.extractLsb' 0 2 = 0b11#2 := by
  decide +kernel

theorem rows16_low : ∀ r ∈ rows16, r.mask.extractLsb' 0 2 = BitVec.allOnes 2 ∧ r.value.extractLsb' 0 2 ≠ 0b11#2 := by
  decide +kernel

/-- Every row of the 16-bit table needs RV32C (R120). -/
theorem rows16_cond : ∀ r ∈ rows16, ∀ cfg : Config, cfg.provides r.cond = true → cfg.rv32c = true := by
  have h : ∀ r ∈ rows16, r.cond = .rv32c ∨ r.cond = .rv32cAndFd := by decide +kernel
  intro r hr cfg hp
  obtain hc | hc := h r hr
  · rwa [hc] at hp
  · rw [hc] at hp
    exact (Bool.and_eq_true_iff.1 hp).1

theorem isCompressed_of_low {cfg : Config} {h : Half} (hl : h.extractLsb' 0 2 ≠ 0b11#2) :
    isCompressed cfg h = cfg.rv32c := by
  simp [isCompressed, hl]

theorem isCompressed_of_long {cfg : Config} {h : Half} (hl : h.extractLsb' 0 2 = 0b11#2) :
    isCompressed cfg h = false := by
  simp [isCompressed, hl]

end Sys2Proof

namespace Sys2Proof.Machine

/-- Bits that decode are fetched as one code: their low half tells their length (R101). -/
theorem lowHalfTells_of_decode {cfg : Config} {c : Code} {i : Instr} (h : decode cfg c = .ok i) :
    LowHalfTells cfg c := by
  obtain ⟨k, hs, hp⟩ := decode_eq_ok h
  cases c with
  | half c =>
    obtain ⟨r, hr, hi⟩ := Option.map_eq_some_iff.1 hs
    cases hi
    have hmem := List.mem_of_find?_eq_some hr
    obtain ⟨hm, hv⟩ := rows16_low r hmem
    have hl := Row.low_of_accepts hm (List.find?_some (p := fun r : Row 16 => r.accepts c) hr)
    exact (isCompressed_of_low (hl ▸ hv)).trans (rows16_cond r hmem cfg hp)
  | word w =>
    obtain ⟨r, hr, hi⟩ := Option.map_eq_some_iff.1 hs
    cases hi
    obtain ⟨hm, hv⟩ := rows32_low r (List.mem_of_find?_eq_some hr)
    have hl := Row.low_of_accepts hm (List.find?_some (p := fun r : Row 32 => r.accepts w) hr)
    refine isCompressed_of_long ?_
    rw [BitVec.extractLsb'_extractLsb'_of_le (by decide)]
    exact hl.trans hv

/-- Settles O6: the bits at `pc` are fetched, with their requests logged, and decode to the instruction. -/
theorem stepRunsDecoded : Obligations.StepRunsDecoded := by
  intro s c i ha hs hd
  rw [step, hs.fetchCode_eq ha (lowHalfTells_of_decode hd)]
  simp only [hd]

/-! ### The traps of fetching -/

theorem halfAt_low (s : State) (a : Word) : (s.halfAt a).extractLsb' 0 2 = (s.byteAt a).extractLsb' 0 2 := by
  unfold State.halfAt
  exact BitVec.extractLsb'_append_eq_of_add_le (by decide)

/-- Settles O8: the three ways fetching ends early, each with the requests made until then. -/
theorem fetchTraps : Obligations.FetchTraps := by
  refine fun s => ⟨fun ha => ?_, fun ha hf => ?_, fun ha hf hlong hh => ?_⟩
  · rw [step_of_fetchCode_trapped (fetchCode_misaligned (s := { s with bus := [] }) ha)]
    exact trapped_eq _ _
  · rw [step_of_fetchCode_trapped (fetchCode_refused (s := { s with bus := [] }) ha hf)]
    rfl
  · have hc : isCompressed s.cfg (readBytes 2 s.mem s.pc) = false := by
      cases h : s.cfg.rv32c with
      | false => simp [isCompressed, h]
      | true => exact isCompressed_of_long (by rw [readBytes_two, halfAt_low, hlong h])
    rw [step_of_fetchCode_trapped (fetchCode_high_refused (s := { s with bus := [] }) ha hf hc hh)]
    rfl

/-! ### How every step ends -/

/-- Settles O9: a step retires or traps. -/
theorem stepAlwaysAnswers : Obligations.StepAlwaysAnswers := by
  intro s
  obtain ⟨next, ⟨t, hstep, hretired⟩ | ⟨tr, requests, hstep⟩⟩ := step_ends s
  · exact ⟨t, hstep, .inl hretired.answer⟩
  · exact ⟨_, hstep, .inr ⟨tr, rfl⟩⟩

/-- Settles O16: a step that retires has counted itself and left the trap registers, one that traps has not. -/
theorem clockCountsCommittedSteps : Obligations.ClockCountsCommittedSteps := by
  intro s t h
  obtain ⟨next, ⟨t', hstep, hretired⟩ | ⟨tr, requests, hstep⟩⟩ := step_ends s
  · obtain rfl := Host.Outcome.next.inj (hstep.symm.trans h)
    exact ⟨fun _ => ⟨hretired.clock, hretired.mcause, hretired.mepc, hretired.mtval⟩,
      fun hne => absurd hretired.answer hne⟩
  · obtain rfl := Host.Outcome.next.inj (hstep.symm.trans h)
    exact ⟨nofun, fun _ => rfl⟩

/-! ### Skipping a trapped instruction (R517) -/

/-- The length a host reads at `mepc` is that of the code that stands there. -/
theorem Holds.skipLength_eq {s t : State} {c : Code} (hs : Holds s c) (hl : LowHalfTells s.cfg c)
    (hcfg : t.cfg = s.cfg) (hmem : t.mem = s.mem) (hmepc : t.mepc = s.pc) : skipLength t = c.ilen := by
  rw [skipLength, hcfg, hmem, hmepc]
  cases c with
  | half h => exact if_pos (by rw [hs.readBytes_half]; exact hl)
  | word w => exact if_neg (by rw [hs.readBytes_low]; exact ne_true_of_eq_false hl)

/-- Settles O22: a trap leaves `pc`, memory and parameters, and `mepc` is that `pc`. -/
theorem resumePastSkipsTheInstruction : Obligations.ResumePastSkipsTheInstruction := by
  intro s t c tr _ hs hhalf hword hstep herr
  obtain ⟨-, hmepc, -, -, -, hpc, -, -, -, hmem, hcfg, -⟩ := trapsChangeOnlyTrapRegisters s t tr hstep herr
  have hl : LowHalfTells s.cfg c := by
    cases c with
    | half h => exact hhalf h rfl
    | word w => exact hword w rfl
  refine ⟨?_, hpc⟩
  show resumeAt (t.mepc + skipLength t) t = resumeAt (s.pc + c.ilen) t
  rw [hs.skipLength_eq hl hcfg hmem hmepc, hmepc]

end Sys2Proof.Machine
end

section
/-!
PROOFS. Jumps and branches, the 16-bit ones included (42_control_transfer.md, 49_c_compressed.md): each is the shared
jump or branch operation with its own target and condition.
-/

namespace Sys2Proof.Machine

/-! ### Each instruction's outcome -/

theorem fromSmall_eq {r : Fin 32} {c : Fin 8} (h : r.val = 8 + c.val) : fromSmall c = r := Fin.ext h.symm

theorem jumps_jalr (s : State) (ilen : Word) (rd rs1 : Reg) :
    Jumps s ilen rd (s.getX rs1 &&& 0xfffffffe#32) (jumpTo ilen rd (jalrTarget (s.getX rs1) 0#32) s) := by
  rw [← jalrTarget_zero]
  exact jumps_of s ilen rd _

/-- Settles O29: `jal` and `jalr` are the shared jump (R203, R204). -/
theorem jumpResults : Obligations.JumpResults := fun s rd _ _ _ => ⟨jumps_of s 4#32 rd _, jumps_of s 4#32 rd _⟩

section
variable (s : State) (rs1 rs2 : Reg) (offset : BitVec 13)

theorem execBeq_branches :
    Branches s 4#32 (s.getX rs1 = s.getX rs2) (s.pc + offset.signExtend 32) (exec (.beq rs1 rs2 offset) s) :=
  branches_of beq_iff_eq.symm

theorem execBne_branches :
    Branches s 4#32 (s.getX rs1 ≠ s.getX rs2) (s.pc + offset.signExtend 32) (exec (.bne rs1 rs2 offset) s) :=
  branches_of bne_iff_ne.symm

theorem execBlt_branches :
    Branches s 4#32 ((s.getX rs1).slt (s.getX rs2) = true) (s.pc + offset.signExtend 32)
      (exec (.blt rs1 rs2 offset) s) :=
  branches_of (by rw [BitVec.slt_iff_toInt_lt, decide_eq_true_iff])

theorem execBge_branches :
    Branches s 4#32 ((s.getX rs1).slt (s.getX rs2) = false) (s.pc + offset.signExtend 32)
      (exec (.bge rs1 rs2 offset) s) :=
  branches_of (by rw [← Bool.not_eq_true, BitVec.slt_iff_toInt_lt, decide_eq_true_iff, Int.not_lt])

theorem execBltu_branches :
    Branches s 4#32 ((s.getX rs1).ult (s.getX rs2) = true) (s.pc + offset.signExtend 32)
      (exec (.bltu rs1 rs2 offset) s) :=
  branches_of (by rw [BitVec.ult_iff_toNat_lt, decide_eq_true_iff])

theorem execBgeu_branches :
    Branches s 4#32 ((s.getX rs1).ult (s.getX rs2) = false) (s.pc + offset.signExtend 32)
      (exec (.bgeu rs1 rs2 offset) s) :=
  branches_of (by rw [← Bool.not_eq_true, BitVec.ult_iff_toNat_lt, decide_eq_true_iff, Nat.not_lt])

end

/-- Settles O30: the six conditions, as the branch operation tests them (R205 to R210). -/
theorem branchResults : Obligations.BranchResults := fun s rs1 rs2 offset =>
  ⟨execBeq_branches s rs1 rs2 offset, execBne_branches s rs1 rs2 offset, execBlt_branches s rs1 rs2 offset,
    execBge_branches s rs1 rs2 offset, execBltu_branches s rs1 rs2 offset, execBgeu_branches s rs1 rs2 offset⟩

theorem execCBeqz_branches (s : State) (c : CReg) (offset : BitVec 9) :
    Branches s 2#32 (s.getX (fromSmall c) = 0#32) (s.pc + offset.signExtend 32) (exec (.cBeqz c offset) s) :=
  branches_of beq_iff_eq.symm

theorem execCBnez_branches (s : State) (c : CReg) (offset : BitVec 9) :
    Branches s 2#32 (s.getX (fromSmall c) ≠ 0#32) (s.pc + offset.signExtend 32) (exec (.cBnez c offset) s) :=
  branches_of bne_iff_ne.symm

/-- Settles O48: the 16-bit forms are the same operations with `ilen` 2 (R464, R475 to R477, R482, R485). -/
theorem compressedControl : Obligations.CompressedControl := by
  intro s rs1 c r o12 o9 hr
  obtain rfl := fromSmall_eq hr
  exact ⟨jumps_of s 2#32 1 _, jumps_of s 2#32 0 _, jumps_jalr s 2#32 0 rs1, jumps_jalr s 2#32 1 rs1,
    execCBeqz_branches s c o9, execCBnez_branches s c o9⟩

/-! ### Where an instruction with a taken target goes -/

/-- The target is reached where it is aligned, and is the value of the trap where it is not (R200, R201). -/
def Reaches (s : State) (target : Word) (r : Result) : Prop :=
  (aligned target s.cfg.ialign = true → ∃ e : Effect s, e.next = target ∧ Commits s e r) ∧
  (aligned target s.cfg.ialign = false → r = Trapped s (.instructionAddressMisaligned target) [])

theorem Jumps.reaches {s : State} {ilen : Word} {rd : Reg} {target : Word} {r : Result} (h : Jumps s ilen rd target r) :
    Reaches s target r :=
  ⟨fun ha => ⟨_, rfl, h.1 ha⟩, h.2⟩

theorem Branches.reaches {s : State} {ilen : Word} {c : Prop} {t target : Word} {r : Result} [Decidable c]
    (h : Branches s ilen c t r) (ht : (if c then some t else none) = some target) : Reaches s target r := by
  obtain ⟨hc, rfl⟩ : c ∧ t = target := by simpa using ht
  exact ⟨fun ha => ⟨_, rfl, h.2.1 hc ha⟩, h.2.2 hc⟩

theorem Branches.reaches_not {s : State} {ilen : Word} {c c' : Prop} {t target : Word} {r : Result} [Decidable c]
    (h : Branches s ilen c' t r) (hc : c' ↔ ¬c) (ht : (if c then none else some t) = some target) :
    Reaches s target r := by
  obtain ⟨hnot, rfl⟩ : ¬c ∧ t = target := by simpa using ht
  exact ⟨fun ha => ⟨_, rfl, h.2.1 (hc.2 hnot) ha⟩, h.2.2 (hc.2 hnot)⟩

theorem exec_reaches {s : State} {i : Instr} {target : Word} (h : takenTarget s i = some target) :
    Reaches s target (exec i s) := by
  cases i with
  | jal rd imm => cases h; exact (jumps_of s 4#32 rd _).reaches
  | jalr rd rs1 imm => cases h; exact (jumps_of s 4#32 rd _).reaches
  | cJal imm => cases h; exact (jumps_of s 2#32 ra _).reaches
  | cJ imm => cases h; exact (jumps_of s 2#32 0 _).reaches
  | cJr rs1 => cases h; exact (jumps_jalr s 2#32 0 rs1).reaches
  | cJalr rs1 => cases h; exact (jumps_jalr s 2#32 ra rs1).reaches
  | beq rs1 rs2 imm => exact (execBeq_branches s rs1 rs2 imm).reaches h
  | bne rs1 rs2 imm => exact (execBne_branches s rs1 rs2 imm).reaches_not Iff.rfl h
  | blt rs1 rs2 imm => exact (execBlt_branches s rs1 rs2 imm).reaches h
  | bge rs1 rs2 imm => exact (execBge_branches s rs1 rs2 imm).reaches_not (by simp) h
  | bltu rs1 rs2 imm => exact (execBltu_branches s rs1 rs2 imm).reaches h
  | bgeu rs1 rs2 imm => exact (execBgeu_branches s rs1 rs2 imm).reaches_not (by simp) h
  | cBeqz c imm => exact (execCBeqz_branches s c imm).reaches h
  | cBnez c imm => exact (execCBnez_branches s c imm).reaches_not Iff.rfl h
  | _ => exact nomatch h

/-! ### Even targets -/

theorem aligned_add {a b : Word} {n : Nat} (hn : n ∣ 2 ^ 32) (ha : aligned a n = true) (hb : aligned b n = true) :
    aligned (a + b) n = true := by
  have ha' : n ∣ a.toNat := Nat.dvd_of_mod_eq_zero (beq_iff_eq.1 ha)
  have hb' : n ∣ b.toNat := Nat.dvd_of_mod_eq_zero (beq_iff_eq.1 hb)
  refine beq_iff_eq.2 (Nat.mod_eq_zero_of_dvd ?_)
  rw [BitVec.toNat_add]
  exact (Nat.dvd_mod_iff hn).2 (Nat.dvd_add ha' hb')

theorem even_eq_not_testBit (n : Nat) : (n % 2 == 0) = !n.testBit 0 := by
  obtain h | h := Nat.mod_two_eq_zero_or_one n <;> simp [Nat.testBit_zero, h]

theorem aligned_two (a : Word) : aligned a 2 = !a.getLsbD 0 := even_eq_not_testBit a.toNat

theorem multipleOf_two {n : Nat} (v : BitVec n) : multipleOf 2 v = !v.getLsbD 0 := even_eq_not_testBit v.toNat

theorem aligned_signExtend {n : Nat} {v : BitVec n} (hn : 0 < n) (h : multipleOf 2 v = true) :
    aligned (v.signExtend 32) 2 = true := by
  rw [aligned_two, BitVec.getLsbD_signExtend]
  rw [multipleOf_two] at h
  simpa [hn] using h

theorem aligned_clearBit0 (a : Word) : aligned (a &&& 0xfffffffe#32) 2 = true := by
  rw [aligned_two]
  simp

/-- The target of every well-formed jump and branch is even from an even `pc`. -/
theorem takenTarget_even {s : State} {i : Instr} {target : Word} (hpc : aligned s.pc 2 = true)
    (hwf : i.wellFormed = true) (h : takenTarget s i = some target) : aligned target 2 = true := by
  have hrel : ∀ {n : Nat} {imm : BitVec n}, 0 < n → multipleOf 2 imm = true →
      aligned (s.pc + imm.signExtend 32) 2 = true := fun hn hm =>
    aligned_add (by decide) hpc (aligned_signExtend hn hm)
  cases i with
  | jal | cJal | cJ => cases h; exact hrel (by decide) hwf
  | jalr | cJr | cJalr => cases h; exact aligned_clearBit0 _
  | beq | blt | bltu | cBeqz =>
    obtain ⟨-, ⟨⟩⟩ := Option.ite_none_right_eq_some.1 h
    exact hrel (by decide) hwf
  | bne | bge | bgeu | cBnez =>
    obtain ⟨-, ⟨⟩⟩ := Option.ite_none_left_eq_some.1 h
    exact hrel (by decide) hwf
  | _ => exact nomatch h

/-- Settles O31: with RV32C a target needs to be even, and every target is. -/
theorem noTargetTrapsWithC : Obligations.NoTargetTrapsWithC := by
  intro s i target hc hpc hwf h
  have heven := takenTarget_even hpc hwf h
  have hialign : s.cfg.ialign = 2 := if_pos hc
  obtain ⟨e, rfl, t, hr, -, -, -, hnext, -, hok, -⟩ := (exec_reaches h).1 (hialign ▸ heven)
  exact ⟨heven, t, hr, hok, hnext⟩

end Sys2Proof.Machine
end

section
/-!
SUPPORT. What an instruction may touch beside `pc`, Clock and the register it writes: memory if it stores, the flags it
raises, the reservation if it stores or reserves. Said once for every update of the state, and from there for every
instruction.
-/

namespace Sys2Proof.Machine

/-- `t` comes after `s`, and between them `stores` says whether something was stored, `csr` whether a CSR was written
and `reserved` which address, if any, was reserved. -/
structure Touches (stores csr : Bool) (reserved : Option Word) (s t : State) : Prop where
  x0 : t.x.get 0 = s.x.get 0
  wf : Memory.wf s.mem = true → Memory.wf t.mem = true
  mem : stores = false → t.mem = s.mem
  flags : csr = false → s.fflags &&& ~~~t.fflags = 0#5
  frm : csr = false → t.frm = s.frm
  reservation : ∀ a, t.reservation = some a → s.reservation = some a ∨ reserved = some a
  kept : stores = false → reserved = none → t.reservation = s.reservation

/-- The same of every next state an outcome answers. -/
def Leaves (stores csr : Bool) (reserved : Option Word) (s : State) (r : Result) : Prop :=
  ∀ t, r = .next t → Touches stores csr reserved s t

section
variable {stores csr : Bool} {reserved : Option Word} {s t u : State}

/-! ### The updates of the state -/

/-- An update that leaves all of it alone. -/
theorem Touches.of_eq (hx0 : t.x.get 0 = s.x.get 0) (hmem : t.mem = s.mem) (hfcsr : t.fcsr = s.fcsr)
    (hres : t.reservation = s.reservation) : Touches stores csr reserved s t where
  x0 := hx0
  wf h := hmem ▸ h
  mem _ := hmem
  flags _ := by rw [State.fflags, State.fflags, hfcsr]; exact BitVec.and_not_self _
  frm _ := by rw [State.frm, State.frm, hfcsr]
  reservation _ h := .inl (hres ▸ h)
  kept _ _ := hres

theorem Touches.refl (s : State) : Touches stores csr reserved s s := .of_eq rfl rfl rfl rfl

/-- No flag set in `a` is clear in `b`. -/
theorem flags_trans {a b d : FlagSet} (hab : a &&& ~~~b = 0#5) (hbd : b &&& ~~~d = 0#5) : a &&& ~~~d = 0#5 := by
  have h : a &&& ~~~d = (a &&& ~~~b) &&& ~~~d ||| (b &&& ~~~d) &&& a := by
    ext i
    simp only [BitVec.getElem_and, BitVec.getElem_or, BitVec.getElem_not]
    cases a[i] <;> cases b[i] <;> cases d[i] <;> rfl
  rw [h, hab, hbd, BitVec.zero_and, BitVec.zero_and, BitVec.or_zero]

theorem Touches.trans (h : Touches stores csr reserved s t) (h' : Touches stores csr reserved t u) :
    Touches stores csr reserved s u where
  x0 := h'.x0.trans h.x0
  wf hs := h'.wf (h.wf hs)
  mem hn := (h'.mem hn).trans (h.mem hn)
  flags hn := flags_trans (h.flags hn) (h'.flags hn)
  frm hn := (h'.frm hn).trans (h.frm hn)
  reservation a ha := (h'.reservation a ha).elim (h.reservation a) .inr
  kept hn hr := (h'.kept hn hr).trans (h.kept hn hr)

theorem touches_setX (r : Reg) (v : Word) (s : State) : Touches stores csr reserved s (s.setX r v) :=
  .of_eq (setX_x0 r v s) (by simp) (by simp) (by simp)

theorem touches_setF (r : FReg) (v : DWord) (s : State) : Touches stores csr reserved s (s.setF r v) :=
  .of_eq rfl rfl rfl rfl

theorem touches_request (q : Request) (s : State) : Touches stores csr reserved s (s.request q) :=
  .of_eq rfl rfl rfl rfl

theorem touches_commitAt (next : Word) (s : State) : Touches stores csr reserved s (commitAt next s) :=
  .of_eq rfl rfl rfl rfl

theorem touches_retire (ilen : Word) (s : State) : Touches stores csr reserved s (retire ilen s) :=
  touches_commitAt _ s

theorem touches_takeTrap (tr : Trap) (s : State) : Touches stores csr reserved s (takeTrap tr s) :=
  .of_eq rfl rfl rfl rfl

theorem touches_accrue (fl : FlagSet) (s : State) : Touches stores csr reserved s (s.accrue fl) where
  x0 := rfl
  wf h := h
  mem _ := rfl
  flags _ := by rw [accrue_fflags, BitVec.not_or, ← BitVec.and_assoc, BitVec.and_not_self]; exact BitVec.zero_and
  frm _ := accrue_frm fl s
  reservation _ h := .inl h
  kept _ _ := rfl

theorem touches_writeCsr (v : Word) (c : Csr) (s : State) : Touches stores true reserved s (s.writeCsr v c) := by
  obtain ⟨fcsr, h⟩ := s.writeCsr_eq v c
  rw [h]
  exact ⟨rfl, id, fun _ => rfl, nofun, nofun, fun _ => .inl, fun _ _ => rfl⟩

theorem reservationAfterStore_some {ea a : Word} {n : Nat} {r : Option Word}
    (h : reservationAfterStore ea n r = some a) : r = some a := by
  cases r with
  | none => exact h
  | some b =>
    rw [reservationAfterStore] at h
    exact (Option.ite_none_left_eq_some.1 h).2

theorem touches_stored (n : Nat) (ea : Word) (v : BitVec (8 * n)) (s : State) :
    Touches true csr reserved s (s.stored n ea v) where
  x0 := rfl
  wf h := stored_wf n ea v h
  mem := nofun
  flags _ := BitVec.and_not_self _
  frm _ := rfl
  reservation _ h := .inl (reservationAfterStore_some h)
  kept := nofun

/-- What a completed `sc.w` does to the slot. -/
theorem touches_unreserve (s : State) : Touches true csr reserved s { s with reservation := none } :=
  ⟨rfl, id, nofun, fun _ => BitVec.and_not_self _, fun _ => rfl, nofun, nofun⟩

/-- What `lr.w` does to the slot. -/
theorem touches_reserve (a : Word) (s : State) :
    Touches stores csr (some a) s { s with reservation := some a } :=
  ⟨rfl, id, fun _ => rfl, fun _ => BitVec.and_not_self _, fun _ => rfl, fun _ => .inr, nofun⟩

/-! ### The shared operations -/

theorem Touches.leaves (h : Touches stores csr reserved s t) : Leaves stores csr reserved s (.next t) :=
  fun _ ht => Host.Outcome.next.inj ht ▸ h

theorem writeX_leaves (ilen : Word) (rd : Reg) (v : Word) (s : State) :
    Leaves stores csr reserved s (writeX ilen rd v s) :=
  ((touches_setX rd v s).trans (touches_retire ilen _)).leaves

theorem noOperation_leaves (ilen : Word) (s : State) : Leaves stores csr reserved s (noOperation ilen s) :=
  (touches_retire ilen s).leaves

theorem finishS_leaves (rd : FReg) (r : Word × FlagSet) (s : State) :
    Leaves stores csr reserved s (finishS rd r s) :=
  (((touches_setF rd _ s).trans (touches_accrue r.2 _)).trans (touches_retire _ _)).leaves

theorem finishD_leaves (rd : FReg) (r : DWord × FlagSet) (s : State) :
    Leaves stores csr reserved s (finishD rd r s) :=
  (((touches_setF rd _ s).trans (touches_accrue r.2 _)).trans (touches_retire _ _)).leaves

theorem finishX_leaves (rd : Reg) (r : Word × FlagSet) (s : State) :
    Leaves stores csr reserved s (finishX rd r s) :=
  (((touches_setX rd _ s).trans (touches_accrue r.2 _)).trans (touches_retire _ _)).leaves

theorem targetThen_leaves {k : Result} (hk : Leaves stores csr reserved s k) (t : Word) :
    Leaves stores csr reserved s (targetThen t s k) := by
  cases ha : aligned t s.cfg.ialign with
  | true => exact targetThen_aligned ha ▸ hk
  | false => exact targetThen_misaligned ha ▸ (touches_takeTrap _ s).leaves

theorem jumpTo_leaves (ilen : Word) (rd : Reg) (t : Word) (s : State) :
    Leaves stores csr reserved s (jumpTo ilen rd t s) :=
  targetThen_leaves ((touches_setX rd _ s).trans (touches_commitAt t _)).leaves t

theorem branchIf_leaves (ilen : Word) (taken : Bool) (offset : Word) (s : State) :
    Leaves stores csr reserved s (branchIf ilen taken offset s) := by
  cases taken with
  | true => exact targetThen_leaves (touches_commitAt _ s).leaves _
  | false => exact (touches_retire ilen s).leaves

theorem withRm_leaves {k : RoundingMode → Result} (hk : ∀ m, Leaves stores csr reserved s (k m)) (rm : BitVec 3)
    (raw : Word) : Leaves stores csr reserved s (withRm rm raw s k) := by
  cases hm : resolveRm rm s with
  | some m => exact withRm_some hm ▸ hk m
  | none => exact withRm_none hm ▸ (touches_takeTrap _ s).leaves

theorem readThen_leaves {n : Nat} {k : BitVec (8 * n) → State → Result} (hu : Touches stores csr reserved s u)
    (hk : ∀ v u', Touches stores csr reserved s u' → Leaves stores csr reserved s (k v u')) (ea : Word) :
    Leaves stores csr reserved s (readThen n ea u k) := by
  have hq := hu.trans (touches_request (.load ea n) u)
  cases hp : accepts u.map .load ea n with
  | true => exact readThen_accepted hp ▸ hk _ _ hq
  | false => exact readThen_refused hp ▸ (hq.trans (touches_takeTrap _ _)).leaves

theorem writeThen_leaves {n : Nat} {k : State → Result} (hu : Touches true csr reserved s u)
    (hk : ∀ u', Touches true csr reserved s u' → Leaves true csr reserved s (k u')) (ea : Word)
    (v : BitVec (8 * n)) : Leaves true csr reserved s (writeThen n ea v u k) := by
  have hq := hu.trans (touches_request (.store ea n v.toNat) u)
  cases hp : accepts u.map .store ea n with
  | true => exact writeThen_accepted hp ▸ hk _ (hq.trans (touches_stored n ea v _))
  | false => exact writeThen_refused hp ▸ (hq.trans (touches_takeTrap _ _)).leaves

theorem loadThen_leaves {n : Nat} {k : BitVec (8 * n) → State → Result}
    (hk : ∀ v u', Touches stores csr reserved s u' → Leaves stores csr reserved s (k v u')) (ea : Word) :
    Leaves stores csr reserved s (loadThen n ea s k) := by
  cases ha : aligned ea n with
  | true => exact loadThen_aligned ha ▸ readThen_leaves (.refl s) hk ea
  | false => exact loadThen_misaligned ha ▸ (touches_takeTrap _ s).leaves

theorem loadX_leaves (ilen : Word) (n : Nat) (extend : BitVec (8 * n) → Word) (rd : Reg) (ea : Word) (s : State) :
    Leaves stores csr reserved s (loadX ilen n extend rd ea s) :=
  loadThen_leaves (fun _ _ hu => ((hu.trans (touches_setX rd _ _)).trans (touches_retire _ _)).leaves) ea

theorem loadS_leaves (ilen : Word) (rd : FReg) (ea : Word) (s : State) :
    Leaves stores csr reserved s (loadS ilen rd ea s) :=
  loadThen_leaves (fun _ _ hu => ((hu.trans (touches_setF rd _ _)).trans (touches_retire _ _)).leaves) ea

theorem loadD_leaves (ilen : Word) (rd : FReg) (ea : Word) (s : State) :
    Leaves stores csr reserved s (loadD ilen rd ea s) :=
  loadThen_leaves (fun _ _ hu => ((hu.trans (touches_setF rd _ _)).trans (touches_retire _ _)).leaves) ea

theorem storeBytes_leaves (ilen : Word) (n : Nat) (ea : Word) (v : BitVec (8 * n)) (s : State) :
    Leaves true csr reserved s (storeBytes ilen n ea v s) := by
  unfold storeBytes
  cases ha : aligned ea n with
  | true =>
    rw [storeThen_aligned ha]
    exact writeThen_leaves (.refl s) (fun _ hu => (hu.trans (touches_retire _ _)).leaves) ea v
  | false => exact storeThen_misaligned ha ▸ (touches_takeTrap _ s).leaves

theorem atomicThen_leaves {k : State → Result} {ea : Word}
    (hk : aligned ea 4 = true → Leaves stores csr reserved s (k s)) (raw : Word) :
    Leaves stores csr reserved s (atomicThen ea raw s k) := by
  cases ha : aligned ea 4 with
  | true => exact atomicThen_aligned ha ▸ hk ha
  | false => exact atomicThen_misaligned ha ▸ (touches_takeTrap _ s).leaves

theorem amo_leaves (raw : Word) (op : Word → Word → Word) (rd rs1 rs2 : Reg) (s : State) :
    Leaves true csr reserved s (amo raw op rd rs1 rs2 s) :=
  atomicThen_leaves (fun _ => readThen_leaves (.refl s) (fun old _ hread => writeThen_leaves hread
    (fun _ hwrite => ((hwrite.trans (touches_setX rd old _)).trans (touches_retire _ _)).leaves) _ _) _) raw

theorem execScW_leaves (rd rs1 rs2 : Reg) (aq rl : Bool) (s : State) :
    Leaves true csr reserved s (execScW rd rs1 rs2 aq rl s) := by
  have hend : ∀ v u, Touches true csr reserved s u →
      Leaves true csr reserved s (.next (retire 4#32 (State.setX rd v { u with reservation := none }))) := fun v u hu =>
    (((hu.trans (touches_unreserve u)).trans (touches_setX rd v _)).trans (touches_retire _ _)).leaves
  refine atomicThen_leaves (fun _ => ?_) _
  split
  · exact writeThen_leaves (.refl s) (hend 0#32) _ _
  · exact hend 1#32 s (.refl s)

/-- The address an instruction reserves where it commits (R244). -/
def reservedBy (s : State) : Instr → Option Word
  | .lrW _ rs1 _ _ => if aligned (s.getX rs1) 4 then some (s.getX rs1) else none
  | _ => none

theorem execLrW_leaves (rd rs1 : Reg) (aq rl : Bool) (s : State) :
    Leaves stores csr (reservedBy s (.lrW rd rs1 aq rl)) s (execLrW rd rs1 aq rl s) := by
  refine atomicThen_leaves (fun ha => ?_) _
  rw [reservedBy, if_pos ha]
  cases hp : accepts s.map .load (s.getX rs1) 4 with
  | false => exact readThen_refused hp ▸ ((touches_request _ s).trans (touches_takeTrap _ _)).leaves
  | true =>
    rw [readThen_accepted hp, State.request_getX]
    exact ((((touches_request _ s).trans (touches_reserve _ _)).trans (touches_setX rd _ _)).trans
      (touches_retire _ _)).leaves

theorem csrAccess_leaves (raw : Word) (csr : BitVec 12) (writes reads : Bool) (new : Word → Word) (rd : Reg)
    (s : State) : Leaves stores true reserved s (csrAccess raw csr writes reads new rd s) := by
  have htrap : Leaves stores true reserved s (.next (takeTrap (.illegalInstruction raw) s)) :=
    (touches_takeTrap _ s).leaves
  cases hc : csrAt s.cfg csr with
  | none => exact csrAccess_absent hc ▸ htrap
  | some c =>
    cases hw : writes && csrReadOnly csr with
    | true =>
      obtain ⟨rfl, hro⟩ := Bool.and_eq_true_iff.1 hw
      exact csrAccess_readOnly hro ▸ htrap
    | false =>
      rw [csrAccess_allowed hc hw]
      refine (Touches.trans ?_ ((touches_setX rd _ _).trans (touches_retire _ _))).leaves
      split
      · exact touches_writeCsr _ c s
      · exact .refl s

end

/-! ### All instructions -/

theorem exec_leaves (s : State) (i : Instr) :
    Leaves (mayStore i) (isCsr i) (reservedBy s i) s (exec i s) := by
  cases i with
  | lui | auipc | addi | slti | sltiu | xori | ori | andi | slli | srli | srai | add | sub | sll | slt | sltu | xor
  | srl | sra | or | and | mul | mulh | mulhsu | mulhu | div | divu | rem | remu | cAddi4spn | cNop | cAddi | cLi | cAddi16sp
  | cLui | cSrli | cSrai | cAndi | cSub | cXor | cOr | cAnd | cSlli | cMv | cAdd => exact writeX_leaves _ _ _ s
  | jal | jalr | cJal | cJ | cJr | cJalr => exact jumpTo_leaves _ _ _ s
  | beq | bne | blt | bge | bltu | bgeu | cBeqz | cBnez => exact branchIf_leaves _ _ _ s
  | lb | lh | lw | lbu | lhu | cLw | cLwsp => exact loadX_leaves _ _ _ _ _ s
  | flw | cFlw | cFlwsp => exact loadS_leaves _ _ _ s
  | fld | cFld | cFldsp => exact loadD_leaves _ _ _ s
  | sb | sh | sw | fsw | fsd | cSw | cFsw | cFsd | cSwsp | cFswsp | cFsdsp => exact storeBytes_leaves _ _ _ _ s
  | lrW rd rs1 aq rl => exact execLrW_leaves rd rs1 aq rl s
  | scW rd rs1 rs2 aq rl => exact execScW_leaves rd rs1 rs2 aq rl s
  | amoswapW | amoaddW | amoxorW | amoandW | amoorW | amominW | amomaxW | amominuW | amomaxuW =>
    rw [exec]
    exact amo_leaves _ _ _ _ _ s
  | fence | fenceI | wfi => exact noOperation_leaves _ s
  | ecall | ebreak | cEbreak => exact (touches_takeTrap _ s).leaves
  | csrrw | csrrs | csrrc | csrrwi | csrrsi | csrrci =>
    rw [exec]
    exact csrAccess_leaves _ _ _ _ _ _ s
  | fmaddS | fmsubS | fnmsubS | fnmaddS | faddS | fsubS | fmulS | fdivS | fsqrtS | fcvtSW | fcvtSWu | fcvtSD =>
    exact withRm_leaves (fun _ => finishS_leaves _ _ s) _ _
  | fmaddD | fmsubD | fnmsubD | fnmaddD | faddD | fsubD | fmulD | fdivD | fsqrtD | fcvtDW | fcvtDWu | fcvtDS =>
    exact withRm_leaves (fun _ => finishD_leaves _ _ s) _ _
  | fcvtWS | fcvtWuS | fcvtWD | fcvtWuD => exact withRm_leaves (fun _ => finishX_leaves _ _ s) _ _
  | fsgnjS | fsgnjnS | fsgnjxS | fminS | fmaxS | fmvWX => exact finishS_leaves _ _ s
  | fsgnjD | fsgnjnD | fsgnjxD | fminD | fmaxD => exact finishD_leaves _ _ s
  | fmvXW | feqS | fltS | fleS | fclassS | feqD | fltD | fleD | fclassD => exact finishX_leaves _ _ s

end Sys2Proof.Machine
end

section
/-!
PROOFS. What instructions and steps keep: memory, flags, the reservation (44_a_extension.md R241) and the invariant of
every step.
-/

namespace Sys2Proof.Machine

/-! ### Instructions -/

/-- Settles O18: instructions that are no CSR instructions only raise flags (R32). -/
theorem flagsAreSticky : Obligations.FlagsAreSticky := fun s t i hcsr h =>
  ⟨(exec_leaves s i t h).flags hcsr, (exec_leaves s i t h).frm hcsr⟩

theorem exec_cfg_map {s t : State} {i : Instr} (h : exec i s = .next t) : t.cfg = s.cfg ∧ t.map = s.map := by
  obtain ⟨t', hnext, hretired⟩ | ⟨tr, requests, htrapped⟩ := exec_ends s i
  · obtain rfl := Host.Outcome.next.inj (hnext.symm.trans h)
    exact ⟨hretired.cfg, hretired.map⟩
  · obtain rfl := Host.Outcome.next.inj (htrapped.symm.trans h)
    exact ⟨rfl, rfl⟩

/-- Settles O19: memory changes by stores only. -/
theorem onlyStoresChangeMemory : Obligations.OnlyStoresChangeMemory := fun s t i h =>
  ⟨(exec_cfg_map h).1, (exec_cfg_map h).2,
    fun hstore a => State.byteAt_congr ((exec_leaves s i t h).mem hstore) a⟩

theorem reservedBy_some {s : State} {i : Instr} {a : Word} (h : reservedBy s i = some a) :
    aligned a 4 = true ∧ ∃ rd rs1 aq rl, i = .lrW rd rs1 aq rl ∧ a = s.getX rs1 := by
  cases i with
  | lrW rd rs1 aq rl =>
    obtain ⟨ha, ⟨⟩⟩ := Option.ite_none_right_eq_some.1 h
    exact ⟨ha, rd, rs1, aq, rl, rfl, rfl⟩
  | _ => exact nomatch h

theorem reservedBy_none {s : State} {i : Instr} (h : ∀ rd rs1 aq rl, i ≠ .lrW rd rs1 aq rl) :
    reservedBy s i = none := by
  cases hr : reservedBy s i with
  | none => rfl
  | some a =>
    obtain ⟨-, rd, rs1, aq, rl, hi, -⟩ := reservedBy_some hr
    exact absurd hi (h rd rs1 aq rl)

/-- The bytes of a store and the four reserved bytes have one in common (R241 b, log 14). -/
theorem overlapsReserved_iff {ea r : Word} {n : Nat} (hpos : 0 < n) (hn : n ≤ 8) :
    overlapsReserved ea n r = true ↔
      ∃ i j : Nat, i < n ∧ j < 4 ∧ ea + BitVec.ofNat 32 i = r + BitVec.ofNat 32 j := by
  rw [overlapsReserved, Bool.or_eq_true, decide_eq_true_iff, decide_eq_true_iff]
  constructor
  · rintro (h | h)
    · exact ⟨0, (ea - r).toNat, hpos, h, by bv_omega⟩
    · exact ⟨(r - ea).toNat, 0, h, by decide, by bv_omega⟩
  · rintro ⟨i, j, hi, hj, he⟩
    by_cases hij : i ≤ j
    · left
      bv_omega
    · right
      bv_omega

/-- Settles O20: `lr.w` alone reserves, and stores take a reservation away where they touch it. -/
theorem reservationRule : Obligations.ReservationRule := by
  refine ⟨fun s t i h => ⟨fun a ha => ?_, ?_⟩, fun ea r n hpos hn => ⟨fun hov => ?_, fun hov => ?_, rfl⟩⟩
  · obtain ⟨t', hnext, hretired⟩ | ⟨tr, requests, htrapped⟩ := exec_ends s i
    · obtain rfl := Host.Outcome.next.inj (hnext.symm.trans h)
      refine ((exec_leaves s i _ h).reservation a ha).imp_right fun hr => ?_
      obtain ⟨-, rd, rs1, aq, rl, hi, he⟩ := reservedBy_some hr
      exact ⟨rd, rs1, aq, rl, hi, he, hretired.answer⟩
    · obtain rfl := Host.Outcome.next.inj (htrapped.symm.trans h)
      exact .inl ha
  · rintro (⟨hstore, hlr⟩ | hanswer)
    · exact (exec_leaves s i t h).kept hstore (reservedBy_none hlr)
    · obtain ⟨t', hnext, hretired⟩ | ⟨tr, requests, htrapped⟩ := exec_ends s i
      · obtain rfl := Host.Outcome.next.inj (hnext.symm.trans h)
        exact absurd hretired.answer hanswer
      · obtain rfl := Host.Outcome.next.inj (htrapped.symm.trans h)
        rfl
  · exact if_pos ((overlapsReserved_iff hpos hn).2 hov)
  · refine if_neg fun h => ?_
    obtain ⟨i, j, hi, hj, he⟩ := (overlapsReserved_iff hpos hn).1 h
    exact hov i j hi hj he

/-! ### The invariant -/

theorem ialign_dvd (cfg : Config) : cfg.ialign ∣ 4 := by
  unfold Config.ialign
  split <;> decide

/-- The length of what was decoded is a multiple of IALIGN: 16-bit codes come with RV32C only (R101). -/
theorem aligned_ilen {cfg : Config} {c : Code} {i : Instr} (h : decode cfg c = .ok i) :
    aligned (encode i).ilen cfg.ialign = true := by
  obtain ⟨-, -, rfl⟩ := encodeDecode cfg c i h
  have hl := lowHalfTells_of_decode h
  cases he : encode i with
  | half c =>
    rw [he] at hl
    have hc : cfg.rv32c = true := (Bool.and_eq_true_iff.1 hl).1
    rw [Config.ialign, if_pos hc]
    show aligned 2#32 2 = true
    decide
  | word w => exact beq_iff_eq.2 (Nat.mod_eq_zero_of_dvd (ialign_dvd cfg))

/-- `pc` stays aligned: an instruction goes to its target only where that is aligned, else behind itself (R25, R200). -/
theorem exec_pc_aligned {s t : State} {c : Code} {i : Instr} (hd : decode s.cfg c = .ok i)
    (hpc : aligned s.pc s.cfg.ialign = true) (h : exec i s = .next t) : aligned t.pc t.cfg.ialign = true := by
  rw [(exec_cfg_map h).1]
  obtain ⟨hok, htrap⟩ := pcAdvances s t i h
  by_cases hanswer : t.answer = .ok
  · rw [hok hanswer]
    cases ht : takenTarget s i with
    | none => exact aligned_add ((ialign_dvd s.cfg).trans (by decide)) hpc (aligned_ilen hd)
    | some target =>
      cases ha : aligned target s.cfg.ialign with
      | true => exact ha
      | false =>
        have htrapped := (exec_reaches ht).2 ha
        obtain rfl := Host.Outcome.next.inj (htrapped.symm.trans h)
        exact nomatch hanswer
  · rw [htrap hanswer]
    exact hpc

theorem Trap.code_mem (tr : Trap) : tr.code.toNat ∈ [0, 1, 2, 3, 4, 5, 6, 7, 11] := by
  cases tr <;> simp [Trap.code]

theorem Inv.logged {s u : State} (h : Inv s) (hu : Logged s u) : Inv u := by
  obtain ⟨requests, rfl⟩ := hu
  exact ⟨h.memory, h.x0, h.pc, h.reservation, h.mcause⟩

theorem Inv.takeTrap {s : State} (h : Inv s) (tr : Trap) : Inv (takeTrap tr s) :=
  ⟨h.memory, h.x0, h.pc, h.reservation, tr.code_mem⟩

theorem exec_inv {s t : State} {c : Code} {i : Instr} (hd : decode s.cfg c = .ok i) (hs : Inv s)
    (h : exec i s = .next t) : Inv t := by
  have htouch := exec_leaves s i t h
  refine ⟨htouch.wf hs.memory, htouch.x0.trans hs.x0, exec_pc_aligned hd hs.pc h, fun a ha => ?_, ?_⟩
  · exact (htouch.reservation a ha).elim (hs.reservation a) fun hr => (reservedBy_some hr).1
  · obtain ⟨t', hnext, hretired⟩ | ⟨tr, requests, htrapped⟩ := exec_ends s i
    · obtain rfl := Host.Outcome.next.inj (hnext.symm.trans h)
      exact hretired.mcause ▸ hs.mcause
    · obtain rfl := Host.Outcome.next.inj (htrapped.symm.trans h)
      exact tr.code_mem

/-- Up to the execution of the decoded instruction a step has only logged requests. -/
theorem step_decoded (s : State) :
    ∃ u, Logged { s with bus := [] } u ∧
      ((∃ tr, step s = .next (takeTrap tr u)) ∨ ∃ c i, decode u.cfg c = .ok i ∧ step s = exec i u) := by
  have hcode : ∀ {c u}, fetchCode { s with bus := [] } = .code c u →
      (∃ tr, step s = .next (takeTrap tr u)) ∨ ∃ c i, decode u.cfg c = .ok i ∧ step s = exec i u := by
    intro c u h
    rw [step, h]
    cases hd : decode u.cfg c with
    | error => exact .inl ⟨.illegalInstruction c.raw, by simp only [hd]⟩
    | ok i => exact .inr ⟨c, i, hd, by simp only [hd]⟩
  obtain ⟨tr, q, h⟩ | ⟨_, q, -, h⟩ | ⟨_, q, h⟩ := fetchCode_log { s with bus := [] }
  · exact ⟨_, ⟨q, rfl⟩, .inl ⟨tr, step_of_fetchCode_trapped h⟩⟩
  · exact ⟨_, ⟨q, rfl⟩, hcode h⟩
  · exact ⟨_, ⟨q, rfl⟩, hcode h⟩

/-- Settles O12: fetching and traps keep the invariant, and so does every instruction that decoding gives. -/
theorem stepKeepsInvariant : Obligations.StepKeepsInvariant := by
  intro s t hs h
  have hbus : Inv { s with bus := [] } := ⟨hs.memory, hs.x0, hs.pc, hs.reservation, hs.mcause⟩
  obtain ⟨u, hu, ⟨tr, hstep⟩ | ⟨c, i, hd, hstep⟩⟩ := step_decoded s
  · obtain rfl := Host.Outcome.next.inj (hstep.symm.trans h)
    exact (hbus.logged hu).takeTrap tr
  · exact exec_inv hd (hbus.logged hu) (hstep.symm.trans h)

/-- Settles O11: the slots hold 0 and nothing is listed or reserved. -/
theorem resetMeetsInvariant : Obligations.ResetMeetsInvariant := by
  have h : ∀ cfg : Config, aligned cfg.resetPc cfg.ialign = true → Inv (State.resetWith cfg) := fun cfg hpc =>
    ⟨rfl, rfl, hpc, nofun, by simp [State.resetWith]⟩
  exact ⟨h, h Config.standard (by decide)⟩

end Sys2Proof.Machine
end

section
/-!
PROOFS. The integer computations (40_integer.md, 41_m_extension.md) and their 16-bit forms (49_c_compressed.md): each
commits by `writeX_commits`; what remains is that the value written is the one the rule states.
-/

namespace Sys2Proof.Machine

/-! ### The values of comparisons and shifts -/

theorem lessSigned_eq (a b : Word) : lessSigned a b = if a.slt b then 1#32 else 0#32 := rfl

theorem lessUnsigned_eq (a b : Word) : lessUnsigned a b = if a.ult b then 1#32 else 0#32 := rfl

/-- A left shift multiplies by a power of two (R160). -/
theorem shiftLeft_eq_mul (a : Word) (n : Nat) : a <<< n = BitVec.ofNat 32 (a.toNat * 2 ^ n) := by
  apply BitVec.eq_of_toNat_eq
  rw [BitVec.toNat_shiftLeft, BitVec.toNat_ofNat, Nat.shiftLeft_eq]

/-- A logical right shift divides by a power of two (R161). -/
theorem shiftRight_eq_div (a : Word) (n : Nat) : a >>> n = BitVec.ofNat 32 (a.toNat / 2 ^ n) := by
  apply BitVec.eq_of_toNat_eq
  rw [BitVec.toNat_ushiftRight, BitVec.toNat_ofNat, Nat.shiftRight_eq_div_pow,
    Nat.mod_eq_of_lt ((Nat.div_le_self _ _).trans_lt a.isLt)]

/-- An arithmetic right shift is the floor of the division by a power of two (R162). -/
theorem sshiftRight_eq_div (a : Word) (n : Nat) : a.sshiftRight n = BitVec.ofInt 32 (a.toInt / 2 ^ n) := by
  rw [BitVec.sshiftRight, Int.shiftRight_eq_div_pow]
  norm_cast

theorem shiftAmount_eq (v : Word) : shiftAmount v = v.toNat % 32 := by
  simp [shiftAmount]

theorem sub_eq_ofInt (a b : Word) : a - b = BitVec.ofInt 32 (a.toInt - b.toInt) := by
  rw [Int.sub_eq_add_neg, BitVec.ofInt_add, BitVec.ofInt_neg, BitVec.ofInt_toInt, BitVec.ofInt_toInt,
    BitVec.sub_eq_add_neg]

/-- Settles O25: the eleven immediate instructions, each by the value it writes. -/
theorem integerImmediate : Obligations.IntegerImmediate := by
  intro s rd rs1 imm imm20 shamt
  refine ⟨?lui, ?auipc, ?addi, ?slti, ?sltiu, ?xori, ?ori, ?andi, ?slli, ?srli, ?srai⟩
  case slli => rw [← shiftLeft_eq_mul]; exact writeX_commits ..
  case srli => rw [← shiftRight_eq_div]; exact writeX_commits ..
  case srai => rw [← sshiftRight_eq_div]; exact writeX_commits ..
  all_goals exact writeX_commits ..

/-- Settles O26: the ten register instructions, each by the value it writes. -/
theorem integerRegister : Obligations.IntegerRegister := by
  intro s rd rs1 rs2
  refine ⟨?add, ?sub, ?sll, ?slt, ?sltu, ?xor, ?srl, ?sra, ?or, ?and⟩
  case sub => rw [← sub_eq_ofInt]; exact writeX_commits ..
  case sll => rw [← shiftAmount_eq, ← shiftLeft_eq_mul]; exact writeX_commits ..
  case srl => rw [← shiftAmount_eq, ← shiftRight_eq_div]; exact writeX_commits ..
  case sra => rw [← shiftAmount_eq, ← sshiftRight_eq_div]; exact writeX_commits ..
  all_goals exact writeX_commits ..

/-! ### Multiplication -/

theorem ofInt_toInt_signExtend (a : Word) : BitVec.ofInt 64 a.toInt = a.signExtend 64 := rfl

theorem ofInt_toNat_setWidth (a : Word) : BitVec.ofInt 64 (a.toNat : Int) = a.setWidth 64 := by
  rw [BitVec.ofInt_natCast, BitVec.ofNat_toNat]

/-- Settles O27: the low word of the product, and the high word of the operands extended to 64 bits. -/
theorem multiply : Obligations.Multiply := by
  intro s rd rs1 rs2
  refine ⟨?mul, ?mulh, ?mulhsu, ?mulhu⟩
  case mul =>
    rw [BitVec.ofInt_mul, BitVec.ofInt_toInt, BitVec.ofInt_toInt]
    exact writeX_commits ..
  case mulh =>
    rw [← ofInt_toInt_signExtend, ← ofInt_toInt_signExtend, ← BitVec.ofInt_mul]
    exact writeX_commits ..
  case mulhsu =>
    rw [← ofInt_toInt_signExtend, ← ofInt_toNat_setWidth, ← BitVec.ofInt_mul]
    exact writeX_commits ..
  case mulhu =>
    rw [← ofInt_toNat_setWidth, ← ofInt_toNat_setWidth, ← BitVec.ofInt_mul]
    exact writeX_commits ..

/-! ### Division -/

/-- The overflow pair of R195, by its patterns. -/
theorem overflows_iff {a b : Word} :
    a.toInt = -2147483648 ∧ b.toInt = -1 ↔ a = 0x80000000#32 ∧ b = 0xffffffff#32 :=
  and_congr ⟨fun h => BitVec.eq_of_toInt_eq (h.trans (by decide)), by rintro rfl; decide⟩
    ⟨fun h => BitVec.eq_of_toInt_eq (h.trans (by decide)), by rintro rfl; decide⟩

theorem divSigned_eq_sdiv {a b : Word} (hb : b ≠ 0#32) (hov : ¬(a = 0x80000000#32 ∧ b = 0xffffffff#32)) :
    divSigned a b = a.sdiv b := by
  rw [divSigned, if_neg hb, if_neg (mt overflows_iff.1 hov)]
  apply BitVec.eq_of_toInt_eq
  rw [BitVec.toInt_ofInt, BitVec.toInt_sdiv]

theorem remSigned_eq_srem {a b : Word} (hb : b ≠ 0#32) (hov : ¬(a = 0x80000000#32 ∧ b = 0xffffffff#32)) :
    remSigned a b = a.srem b := by
  have hr : a.toInt - b.toInt * a.toInt.tdiv b.toInt = (a.srem b).toInt := by
    rw [BitVec.toInt_srem]
    exact sub_eq_of_eq_add' (Int.mul_tdiv_add_tmod _ _).symm
  rw [remSigned, if_neg hb, if_neg (mt overflows_iff.1 hov), hr, BitVec.ofInt_toInt]

/-- Outside the two corners the signed results satisfy the division law (R195, R197). -/
theorem divSigned_law {a b : Word} (hb : b ≠ 0#32) (hov : ¬(a = 0x80000000#32 ∧ b = 0xffffffff#32)) :
    a.toInt = b.toInt * (divSigned a b).toInt + (remSigned a b).toInt ∧
      (remSigned a b).toInt.natAbs < b.toInt.natAbs ∧
      (remSigned a b = 0#32 ∨ (remSigned a b).toInt.sign = a.toInt.sign) := by
  have hne : a ≠ BitVec.intMin 32 ∨ b ≠ -1#32 := not_and_or.1 hov
  have hb' : b.toInt ≠ 0 := fun h => hb (BitVec.eq_of_toInt_eq h)
  rw [divSigned_eq_sdiv hb hov, remSigned_eq_srem hb hov, BitVec.toInt_sdiv_of_ne_or_ne a b hne, BitVec.toInt_srem]
  refine ⟨(Int.mul_tdiv_add_tmod _ _).symm, ?_, ?_⟩
  · rw [Int.natAbs_tmod]
    exact Nat.mod_lt _ (Int.natAbs_pos.2 hb')
  · rw [Int.sign_tmod]
    by_cases hd : b.toInt ∣ a.toInt
    · left
      apply BitVec.eq_of_toInt_eq
      rw [BitVec.toInt_srem, Int.tmod_eq_zero_of_dvd hd]
      rfl
    · exact .inr (if_neg hd)

/-- With a divisor other than 0 the unsigned results satisfy the division law (R196, R198). -/
theorem divUnsigned_law {a b : Word} (hb : b ≠ 0#32) :
    a.toNat = b.toNat * (divUnsigned a b).toNat + (remUnsigned a b).toNat ∧ (remUnsigned a b).toNat < b.toNat := by
  have hpos : 0 < b.toNat := Nat.pos_of_ne_zero fun h => hb (BitVec.eq_of_toNat_eq h)
  rw [divUnsigned, remUnsigned, if_neg hb, if_neg hb, BitVec.toNat_ofNat, BitVec.toNat_ofNat,
    Nat.mod_eq_of_lt ((Nat.div_le_self _ _).trans_lt a.isLt), Nat.mod_eq_of_lt ((Nat.mod_le _ _).trans_lt a.isLt)]
  exact ⟨(Nat.div_add_mod _ _).symm, Nat.mod_lt _ hpos⟩

theorem divSigned_overflow : divSigned 0x80000000#32 0xffffffff#32 = 0x80000000#32 := by decide

theorem remSigned_overflow : remSigned 0x80000000#32 0xffffffff#32 = 0#32 := by decide

/-- Settles O28: the two corners by definition, else the division law. -/
theorem divide : Obligations.Divide := by
  intro s rd rs1 rs2
  have hdiv : ∀ {q}, divSigned (s.getX rs1) (s.getX rs2) = q →
      Commits s { next := s.pc + 4#32, x := some (rd, q) } (exec (.div rd rs1 rs2) s) := by
    rintro _ rfl
    exact writeX_commits ..
  have hrem : ∀ {r}, remSigned (s.getX rs1) (s.getX rs2) = r →
      Commits s { next := s.pc + 4#32, x := some (rd, r) } (exec (.rem rd rs1 rs2) s) := by
    rintro _ rfl
    exact writeX_commits ..
  have hdivu : ∀ {q}, divUnsigned (s.getX rs1) (s.getX rs2) = q →
      Commits s { next := s.pc + 4#32, x := some (rd, q) } (exec (.divu rd rs1 rs2) s) := by
    rintro _ rfl
    exact writeX_commits ..
  have hremu : ∀ {r}, remUnsigned (s.getX rs1) (s.getX rs2) = r →
      Commits s { next := s.pc + 4#32, x := some (rd, r) } (exec (.remu rd rs1 rs2) s) := by
    rintro _ rfl
    exact writeX_commits ..
  refine ⟨fun hb => ⟨hdiv (if_pos hb), hdivu (if_pos hb), hrem (if_pos hb), hremu (if_pos hb)⟩, fun ha hb => ?_,
    fun hb hov => ⟨_, _, hdiv rfl, hrem rfl, divSigned_law hb hov⟩,
    fun hb => ⟨_, _, hdivu rfl, hremu rfl, divUnsigned_law hb⟩⟩
  rw [ha, hb] at hdiv hrem
  exact ⟨hdiv divSigned_overflow, hrem remSigned_overflow⟩

/-! ### The 16-bit forms -/

theorem getX_zero_add (s : State) (v : Word) : s.getX 0 + v = v := by
  rw [getX_zero, BitVec.zero_add]

/-- Settles O46: the sixteen 16-bit computations; their three-bit fields name `x8` to `x15`. -/
theorem compressedInteger : Obligations.CompressedInteger := by
  intro s rd rs2 cd cs imm shamt imm10 imm18 d e hd he
  obtain rfl := fromSmall_eq hd
  obtain rfl := fromSmall_eq he
  refine ⟨?addi4spn, ?nop, ?addi, ?li, ?addi16sp, ?lui, ?srli, ?srai, ?andi, ?sub, ?xor, ?or, ?and, ?slli, ?mv, ?add⟩
  case nop => rw [← getX_zero_add s (imm.signExtend 32)]; exact writeX_commits ..
  case li => rw [← getX_zero_add s (imm.signExtend 32)]; exact writeX_commits ..
  case srli => rw [← shiftRight_eq_div]; exact writeX_commits ..
  case srai => rw [← sshiftRight_eq_div]; exact writeX_commits ..
  case slli => rw [← shiftLeft_eq_mul]; exact writeX_commits ..
  case mv => rw [← getX_zero_add s (s.getX rs2)]; exact writeX_commits ..
  all_goals exact writeX_commits ..

end Sys2Proof.Machine
end

section
/-!
PROOFS. Memory and the accesses to it (20_memory.md, 43_load_store.md, 44_a_extension.md), with the floating-point and
16-bit loads and stores.
-/

namespace Sys2Proof.Machine

/-! ### Bytes of wide values -/

/-- Byte `i` of a wide read is the byte at the address `i` further (R62). -/
theorem extractLsb'_readBytes {n : Nat} {m : Memory} {a : Word} {i : Nat} (hi : i < n) :
    (readBytes n m a).extractLsb' (8 * i) 8 = Memory.read m (a + BitVec.ofNat 32 i).toNat := by
  ext j hj
  rw [BitVec.getElem_extractLsb', readBytes_bit n m a (8 * i + j) (by omega), ← BitVec.getLsbD_eq_getElem,
    show (8 * i + j) / 8 = i by omega, show (8 * i + j) % 8 = j by omega]

/-- The distance back from an address `i` further is `i`. -/
theorem add_ofNat_sub {a : Word} {i : Nat} (hi : i ≤ 8) : (a + BitVec.ofNat 32 i - a).toNat = i := by
  rw [BitVec.add_comm, BitVec.add_sub_cancel, BitVec.toNat_ofNat]
  omega

/-- A byte within a wide write is the write's byte. -/
theorem read_writeBytes_inside {m : Memory} {a : Word} {n i : Nat} {v : BitVec (8 * n)} (hm : Memory.wf m = true)
    (hn : n ≤ 8) (hi : i < n) :
    Memory.read (writeBytes n m a v) (a + BitVec.ofNat 32 i).toNat = v.extractLsb' (8 * i) 8 := by
  rw [read_writeBytes n hm a _ v (by omega), add_ofNat_sub (by omega), if_pos hi]

/-- A byte beyond a wide write is as it was. -/
theorem read_writeBytes_outside {m : Memory} {a b : Word} {n : Nat} {v : BitVec (8 * n)} (hm : Memory.wf m = true)
    (hn : n ≤ 8) (hb : ∀ i, i < n → b ≠ a + BitVec.ofNat 32 i) :
    Memory.read (writeBytes n m a v) b.toNat = Memory.read m b.toNat := by
  rw [read_writeBytes n hm a b v (by omega), if_neg]
  intro h
  refine hb _ h ?_
  rw [BitVec.ofNat_toNat, BitVec.setWidth_eq, BitVec.add_comm, BitVec.sub_add_cancel]

/-- What was written is read back (R62). -/
theorem readBytes_writeBytes {m : Memory} {a : Word} {n : Nat} {v : BitVec (8 * n)} (hm : Memory.wf m = true)
    (hn : n ≤ 8) : readBytes n (writeBytes n m a v) a = v := by
  apply BitVec.eq_of_getLsbD_eq
  intro i hi
  rw [readBytes_bit n _ a i hi, read_writeBytes_inside hm hn (by omega), BitVec.getLsbD_extractLsb',
    decide_eq_true (Nat.mod_lt _ (by decide)), Bool.true_and, Nat.div_add_mod]

/-- Settles O23: reads and writes byte by byte. -/
theorem memoryIsLittleEndian : Obligations.MemoryIsLittleEndian := fun _ _ _ _ hm hn =>
  ⟨fun _ hi => extractLsb'_readBytes hi, fun _ hi => read_writeBytes_inside hm hn hi,
    fun _ hb => read_writeBytes_outside hm hn hb, readBytes_writeBytes hm hn⟩

/-! ### Loads and stores -/

theorem aligned_one (a : Word) : aligned a 1 = true := by
  rw [aligned, Nat.mod_one, beq_self_eq_true]

/-- Settles O32: the five loads, with the extension each has. -/
theorem loadResults : Obligations.LoadResults := by
  intro s rd rs1 imm
  refine ⟨loads_x ?_, loads_x ?_, loads_x ?_, loads_x ?_, loads_x ?_, aligned_one _⟩
  · rw [readBytes_one]; rfl
  · rw [readBytes_two]; rfl
  · rw [readBytes_four]; exact BitVec.setWidth_eq _
  · rw [readBytes_one]; rfl
  · rw [readBytes_two]; rfl

/-- The low bytes of a value, as the store takes them (R228, R229). -/
theorem toNat_extractLsb'_zero {w : Nat} (n : Nat) (v : BitVec w) :
    (v.extractLsb' 0 n).toNat = v.toNat % 2 ^ n := by
  rw [BitVec.extractLsb'_toNat, Nat.shiftRight_zero]

theorem toNat_eq_mod {w : Nat} (v : BitVec w) : v.toNat = v.toNat % 2 ^ w := (Nat.mod_eq_of_lt v.isLt).symm

/-- Settles O33: the three stores, with the low bytes each stores. -/
theorem storeResults : Obligations.StoreResults := fun _ _ _ _ hm =>
  ⟨stores_of hm (by decide) (toNat_extractLsb'_zero 8 _), stores_of hm (by decide) (toNat_extractLsb'_zero 16 _),
    stores_of hm (by decide) (toNat_eq_mod _)⟩

/-- Eight bytes are accepted where both words are (R66, D12). -/
theorem accepts_eight (map : List Region) (k : AccessKind) (ea : Word) :
    accepts map k ea 8 = (accepts map k ea 4 && accepts map k (ea + 4#32) 4) := by
  have h : ∀ i, BitVec.ofNat 32 (4 + i) = 4#32 + BitVec.ofNat 32 i := fun i => BitVec.ofNat_add 4 i
  rw [accepts, accepts, accepts, show 8 = 4 + 4 from rfl, List.range_add, List.all_append, List.all_map]
  simp only [Function.comp_def, h, BitVec.add_assoc]

/-- Settles O39: the floating-point loads and stores. -/
theorem fpLoadsAndStores : Obligations.FpLoadsAndStores := by
  intro s rd rs2 rs1 imm hm
  refine ⟨loads_s ?_, loads_d ?_, stores_of hm (by decide) ?_, stores_of hm (by decide) (toNat_eq_mod _),
    fun k => accepts_eight s.map k _⟩
  · rw [readBytes_four]; rfl
  · exact readBytes_eight s _
  · exact toNat_extractLsb'_zero 32 _

/-- Settles O47: the 16-bit loads and stores. -/
theorem compressedLoadsAndStores : Obligations.CompressedLoadsAndStores := by
  intro s c1 c2 r1 r2 rd rs2 u7 u8 u9 hm h1 h2
  obtain rfl := fromSmall_eq h1
  obtain rfl := fromSmall_eq h2
  have hword : ∀ ea, zext (readBytes 4 s.mem ea) = s.wordAt ea := fun ea => by
    rw [readBytes_four]; exact BitVec.setWidth_eq _
  have hbox : ∀ ea, box (readBytes 4 s.mem ea) = 0xffffffff#32 ++ s.wordAt ea := fun ea => by
    rw [readBytes_four]; rfl
  have hsx : ∀ {ilen ea} (v : Word), Stores s ilen 4 ea v.toNat (storeBytes ilen 4 ea v s) := fun v =>
    stores_of hm (by decide) (toNat_eq_mod v)
  have hsf : ∀ {ilen ea} (r : FReg), Stores s ilen 4 ea (s.getF r).toNat (storeBytes ilen 4 ea (s.lowF r) s) :=
    fun _ => stores_of hm (by decide) (toNat_extractLsb'_zero 32 _)
  have hsd : ∀ {ilen ea} (v : DWord), Stores s ilen 8 ea v.toNat (storeBytes ilen 8 ea v s) := fun v =>
    stores_of hm (by decide) (toNat_eq_mod v)
  exact ⟨loads_x (hword _), loads_s (hbox _), loads_d (readBytes_eight s _), hsx _, hsf _, hsd _,
    loads_x (hword _), loads_s (hbox _), loads_d (readBytes_eight s _), hsx _, hsf _, hsd _⟩

/-! ### Atomic instructions -/

/-- An instruction that ends by writing an integer register, after it has changed memory, the reservation, `fcsr` and
the log of requests. -/
theorem setX_retire_commits {s : State} {mem : Memory} {reservation : Option Word} {fcsr : BitVec 8}
    {store : Option Stored} {requests : List Request} (rd : Reg) (v : Word)
    (hbytes : ∀ a : Word, Memory.read mem a.toNat = ({ next := s.pc, store := store } : Effect s).byteAfter a) :
    Commits s
      { next := s.pc + 4#32, x := some (rd, v), fcsr := fcsr, reservation := reservation, store := store,
        requests := requests }
      (.next (retire 4#32 (State.setX rd v
        { s with mem := mem, reservation := reservation, fcsr := fcsr, bus := s.bus ++ requests }))) := by
  generalize hu : { s with mem := mem, reservation := reservation, fcsr := fcsr, bus := s.bus ++ requests } = u
  have hx : ∀ k, u.getX k = s.getX k := fun k => by rw [← hu]; rfl
  refine ⟨_, rfl, fun k => ?x, fun k => ?f, fun a => ?mem, ?_⟩
  case x =>
    refine (getX_setX rd k v u).trans ?_
    rw [hx k]
    rfl
  case f =>
    refine (State.setX_getF rd v u k).trans ?_
    rw [← hu]
    rfl
  case mem =>
    refine (State.byteAt_congr (State.setX_mem rd v u) a).trans ?_
    rw [← hu]
    exact hbytes a
  rw [← hu]
  simp

/-- Settles O34: `lr.w` reserves what it reads; `sc.w` stores exactly where that word is reserved. -/
theorem loadReservedStoreConditional : Obligations.LoadReservedStoreConditional := by
  intro s rd rs1 rs2 aq rl hm ha
  have hlr : exec (.lrW rd rs1 aq rl) s = readThen 4 (s.getX rs1) s fun v s' =>
      .next (retire 4#32 (State.setX rd v { s' with reservation := some (s'.getX rs1) })) := by
    show execLrW rd rs1 aq rl s = _
    rw [execLrW, atomicThen_aligned ha]
  have hsc : exec (.scW rd rs1 rs2 aq rl) s = if s.reservation = some (s.getX rs1) then
        writeThen 4 (s.getX rs1) (s.getX rs2) s fun s' =>
          .next (retire 4#32 (State.setX rd 0#32 { s' with reservation := none }))
      else .next (retire 4#32 (State.setX rd 1#32 { s with reservation := none })) := by
    show execScW rd rs1 rs2 aq rl s = _
    rw [execScW, atomicThen_aligned ha]
  refine ⟨fun hp => ?_, fun hp => ?_, fun hr hp => ?_, fun hr hp => ?_, fun hr => ?_⟩
  · rw [hlr, readThen_accepted hp, readBytes_four]
    exact setX_retire_commits rd _ fun _ => rfl
  · rw [hlr, readThen_refused hp]
    rfl
  · rw [hsc, if_pos hr, writeThen_accepted hp]
    exact setX_retire_commits rd _ fun a => byteAt_writeBytes hm (by decide) a
  · rw [hsc, if_pos hr, writeThen_refused hp]
    rfl
  · rw [hsc, if_neg hr]
    simpa using setX_retire_commits (s := s) (requests := []) rd 1#32 fun _ => rfl

theorem minSigned_eq (old v : Word) : minSigned old v = if v.slt old then v else old := by
  simp only [minSigned, BitVec.slt_iff_toInt_lt, ← not_le, ite_not]

theorem maxSigned_eq (old v : Word) : maxSigned old v = if old.slt v then v else old := by
  simp only [maxSigned, BitVec.slt_iff_toInt_lt, ← not_le, ite_not]

theorem minUnsigned_eq (old v : Word) : minUnsigned old v = if v.ult old then v else old := by
  simp only [minUnsigned, BitVec.ult_iff_toNat_lt, ← not_le, ite_not]

theorem maxUnsigned_eq (old v : Word) : maxUnsigned old v = if old.ult v then v else old := by
  simp only [maxUnsigned, BitVec.ult_iff_toNat_lt, ← not_le, ite_not]

/-- Settles O35: the nine AMOs, each with the word it stores. -/
theorem amoResults : Obligations.AmoResults := by
  intro s rd rs1 rs2 aq rl hm ha
  exact ⟨amo_of (op := fun _ v => v) hm ha rfl, amo_of (op := (· + ·)) hm ha rfl, amo_of (op := (· ^^^ ·)) hm ha rfl,
    amo_of (op := (· &&& ·)) hm ha rfl, amo_of (op := (· ||| ·)) hm ha rfl,
    amo_of hm ha (minSigned_eq _ _), amo_of hm ha (maxSigned_eq _ _), amo_of hm ha (minUnsigned_eq _ _),
    amo_of hm ha (maxUnsigned_eq _ _)⟩

end Sys2Proof.Machine
end

section
/-!
PROOFS. The CSR instructions and the other system instructions (45_system_csr.md), reset and the host's actions
(70_reset_and_hazards.md, 00_scope.md section 4), and the encodings printed in the spec.
-/

namespace Sys2Proof.Machine

/-! ### CSR instructions (R270) -/

theorem readCsr_fflags (s : State) : 0#27 ++ s.fcsr.extractLsb' 0 5 = s.readCsr .fflags :=
  (BitVec.setWidth_eq_append (by decide)).symm

theorem readCsr_frm (s : State) : 0#29 ++ s.fcsr.extractLsb' 5 3 = s.readCsr .frm :=
  (BitVec.setWidth_eq_append (by decide)).symm

theorem readCsr_fcsr (s : State) : 0#24 ++ s.fcsr = s.readCsr .fcsr :=
  (BitVec.setWidth_eq_append (by decide)).symm

/-- A switch under a test for the address, and the test with the switch in it, pick the same CSR. -/
theorem map_csr_ite {p q : Prop} [Decidable p] [Decidable q] (f : Csr → Word) (c : Csr) (r : Option Csr)
    (hr : p → r = none) :
    (if p then if q then some c else none else r).map f = if p ∧ q then some (f c) else r.map f := by
  by_cases hp : p <;> by_cases hq : q <;> simp [hp, hq, hr]

theorem csrValue_eq (s : State) (csr : BitVec 12) : csrValue s csr = (csrAt s.cfg csr).map s.readCsr := by
  unfold csrValue csrAt
  rw [readCsr_fflags, readCsr_frm, readCsr_fcsr]
  rw [map_csr_ite, map_csr_ite, map_csr_ite, map_csr_ite, map_csr_ite]
  · simp [State.readCsr]
  · exact fun _ => rfl
  · rintro (rfl | rfl | rfl) <;> simp
  · rintro rfl; simp
  · rintro rfl; simp
  · rintro rfl; simp

/-- A CSR that may be written is `fflags`, `frm` or `fcsr`, and takes the value's low bits (R31, R34). -/
theorem writeCsr_eq {s : State} {csr : BitVec 12} {c : Csr} (hc : csrAt s.cfg csr = some c)
    (hro : csr.extractLsb' 10 2 ≠ 0b11#2) (v : Word) : s.writeCsr v c = { s with fcsr := fcsrAfterWrite s csr v } := by
  unfold csrAt at hc
  split_ifs at hc with h1 _ h2 _ h3 _ hlow _ hhigh <;> obtain rfl := Option.some.inj hc
  · rw [h1]; rfl
  · rw [h2]; rfl
  · rw [h3]; rfl
  · obtain rfl | rfl | rfl := hlow <;> exact absurd rfl hro
  · obtain rfl | rfl | rfl := hhigh <;> exact absurd rfl hro

/-- A CSR access that may run, with the old value and what is written (R270). Without a read the old value is
discarded. -/
theorem csrAccess_runs {s : State} {raw : Word} {csr : BitVec 12} {writes reads : Bool} {new : Word → Word} {rd : Reg}
    {old : Word} (hold : csrValue s csr = some old) (hw : writes = true → csr.extractLsb' 10 2 ≠ 0b11#2)
    (hr : reads = true ∨ rd = 0 ∧ new 0#32 = new old) :
    csrAccess raw csr writes reads new rd s = .next (retire 4#32 (State.setX rd old
      { s with fcsr := if writes then fcsrAfterWrite s csr (new old) else s.fcsr })) := by
  rw [csrValue_eq] at hold
  obtain ⟨c, hc, rfl⟩ := Option.map_eq_some_iff.1 hold
  have hperm : (writes && csrReadOnly csr) = false := by
    cases writes with
    | false => rfl
    | true => exact beq_eq_false_iff_ne.2 (hw rfl)
  have hwritten : ∀ v, (if writes then s.writeCsr v c else s) =
      { s with fcsr := if writes then fcsrAfterWrite s csr v else s.fcsr } := fun v => by
    cases writes with
    | false => rfl
    | true => exact writeCsr_eq hc (hw rfl) v
  rw [csrAccess_allowed hc hperm, hwritten]
  obtain rfl | ⟨rfl, hnew⟩ := hr
  · rfl
  · cases reads with
    | true => rfl
    | false => rw [if_neg Bool.false_ne_true, hnew]; rfl

theorem csrRuns_of {s : State} {raw : Word} {csr : BitVec 12} {writes reads : Bool} {new : Word → Word} {rd : Reg}
    {p : Prop} (hp : p ↔ writes = true) (hr : reads = true ∨ rd = 0 ∧ ∀ old, new 0#32 = new old) :
    CsrRuns s csr rd p new (csrAccess raw csr writes reads new rd s) := by
  intro old hold
  have hr' : reads = true ∨ rd = 0 ∧ new 0#32 = new old := hr.imp_right fun h => ⟨h.1, h.2 old⟩
  constructor
  · intro hw hro
    rw [csrAccess_runs hold (fun _ => hro) hr', if_pos (hp.1 hw)]
    simpa using setX_retire_commits (s := s) (requests := []) rd old fun _ => rfl
  · intro hw
    rw [csrAccess_runs hold (fun h => absurd (hp.2 h) hw) hr', if_neg (mt hp.2 hw)]
    simpa using setX_retire_commits (s := s) (requests := []) rd old fun _ => rfl

theorem csrTraps_of {s : State} {i : Instr} {csr : BitVec 12} {writes reads : Bool} {new : Word → Word}
    {rd : Reg} {p : Prop} (hp : p ↔ writes = true)
    (hi : exec i s = csrAccess (encode i).raw csr writes reads new rd s) : CsrTraps s csr p i := by
  rw [CsrTraps, hi, ← trapped_eq]
  refine ⟨fun h => csrAccess_absent ?_, fun hw hro => ?_⟩
  · rw [csrValue_eq, Option.map_eq_none_iff] at h
    exact h
  · rw [hp.1 hw]
    exact csrAccess_readOnly (beq_iff_eq.2 hro)

/-- The forms that write whatever the old value is read it unless `rd` is `x0` (R272, R275). -/
theorem reads_or_discards (rd : Reg) (v : Word) :
    (rd != 0) = true ∨ rd = 0 ∧ ∀ old : Word, (fun _ : Word => v) 0#32 = (fun _ => v) old := by
  by_cases h : rd = 0
  · exact .inr ⟨h, fun _ => rfl⟩
  · exact .inl (bne_iff_ne.2 h)

/-- Settles O38: the six instructions differ in when they read and write and in the value they write. -/
theorem csrInstructions : Obligations.CsrInstructions := by
  intro s rd rs1 csr uimm
  have hrs1 : rs1 ≠ 0 ↔ (rs1 != 0) = true := bne_iff_ne.symm
  have huimm : uimm ≠ 0#5 ↔ (uimm != 0#5) = true := bne_iff_ne.symm
  have halways : True ↔ true = true := (iff_true_intro rfl).symm
  have hrw : exec (.csrrw rd csr rs1) s = csrAccess _ csr true (rd != 0) (fun _ => s.getX rs1) rd s := rfl
  have hrs : exec (.csrrs rd csr rs1) s = csrAccess _ csr (rs1 != 0) true (fun old => old ||| s.getX rs1) rd s := rfl
  have hrc : exec (.csrrc rd csr rs1) s = csrAccess _ csr (rs1 != 0) true (fun old => old &&& ~~~s.getX rs1) rd s := rfl
  have hrwi : exec (.csrrwi rd csr uimm) s = csrAccess _ csr true (rd != 0) (fun _ => zext uimm) rd s := rfl
  have hrsi : exec (.csrrsi rd csr uimm) s = csrAccess _ csr (uimm != 0#5) true (fun old => old ||| zext uimm) rd s :=
    rfl
  have hrci : exec (.csrrci rd csr uimm) s =
      csrAccess _ csr (uimm != 0#5) true (fun old => old &&& ~~~zext uimm) rd s := rfl
  exact ⟨csrRuns_of halways (reads_or_discards rd _), csrRuns_of hrs1 (.inl rfl), csrRuns_of hrs1 (.inl rfl),
    csrRuns_of halways (reads_or_discards rd _), csrRuns_of huimm (.inl rfl), csrRuns_of huimm (.inl rfl),
    csrTraps_of halways hrw, csrTraps_of hrs1 hrs, csrTraps_of hrs1 hrc, csrTraps_of halways hrwi,
    csrTraps_of huimm hrsi, csrTraps_of huimm hrci⟩

/-- Settles O37: three instructions that only advance `pc`, and three that only trap. -/
theorem systemInstructions : Obligations.SystemInstructions := fun s _ _ _ _ _ _ =>
  ⟨noOperation_commits 4#32 s, noOperation_commits 4#32 s, noOperation_commits 4#32 s, rfl, rfl, rfl⟩

/-! ### Traps, reset and the host -/

/-- Settles O15: the table of the nine traps. -/
theorem trapCodesAndValues : Obligations.TrapCodesAndValues := fun _ =>
  ⟨rfl, rfl, rfl, rfl, rfl, rfl, rfl, rfl, rfl, rfl, rfl, rfl, rfl, rfl, rfl, rfl, rfl, rfl⟩

theorem resetWith_getX (cfg : Config) (r : Reg) : (State.resetWith cfg).getX r = 0#32 := by
  simp [State.getX, State.resetWith, Vector.get_eq_getElem]

theorem resetWith_getF (cfg : Config) (r : FReg) : (State.resetWith cfg).getF r = 0#64 := by
  simp [State.getF, State.resetWith, Vector.get_eq_getElem]

/-- Settles O10: the reset values. -/
theorem resetState : Obligations.ResetState := by
  refine ⟨rfl, fun cfg r => ⟨resetWith_getX cfg r, resetWith_getF cfg r, ?_, rfl, rfl, rfl, rfl, rfl, rfl, rfl⟩⟩
  rw [State.readS, resetWith_getF]
  decide

theorem hostApply_x0 (a : HostAction) {s : State} (h : s.x.get 0 = 0#32) : (hostApply a s).x.get 0 = 0#32 := by
  cases a with
  | setX r v => exact (setX_x0 r v s).trans h
  | setClock v => simp only [hostApply, hostSetClock]; split <;> exact h
  | reset => rfl
  | _ => exact h

theorem hostApply_cfg (a : HostAction) (s : State) : (hostApply a s).cfg = s.cfg := by
  cases a with
  | setX r v => exact State.setX_cfg r v s
  | setClock v => simp only [hostApply, hostSetClock]; split <;> rfl
  | _ => rfl

theorem byteAt_write {s : State} (hs : Memory.wf s.mem = true) (a k : Word) (b : Byte) :
    Memory.read (Memory.write s.mem a.toNat b) k.toNat = if k = a then b else s.byteAt k := by
  by_cases h : k = a
  · rw [if_pos h, h]
    exact Memory.read_write_same hs
  · rw [if_neg h]
    exact Memory.read_write_other s.mem (mt BitVec.eq_of_toNat_eq h)

theorem hostApply_writes (a : HostAction) {s : State} (hs : Memory.wf s.mem = true) :
    HostWrites a s (hostApply a s) := by
  cases a with
  | setX r v =>
    exact ⟨fun k => getX_setX r k v s, State.setX_getF r v s, State.byteAt_congr (State.setX_mem r v s),
      by simp [hostApply]⟩
  | setF r v => exact ⟨fun _ => rfl, fun k => getF_setF r k v s, fun _ => rfl, by simp [hostApply]⟩
  | setClock v =>
    rw [hostApply, hostSetClock]
    by_cases h : s.cfg.clockHostWritable = true
    · rw [if_pos h]
      exact ⟨fun _ => rfl, fun _ => rfl, fun _ => rfl, by simp [h]⟩
    · rw [if_neg h]
      exact ⟨fun _ => rfl, fun _ => rfl, fun _ => rfl, by simp [h]⟩
  | setByte ad b => exact ⟨fun _ => rfl, fun _ => rfl, fun k => byteAt_write hs ad k b, by simp [hostApply]⟩
  | reset =>
    exact ⟨resetWith_getX s.cfg, resetWith_getF s.cfg, fun _ => rfl, by simp [hostApply, hostReset, State.resetWith]⟩
  | _ => exact ⟨fun _ => rfl, fun _ => rfl, fun _ => rfl, by simp [hostApply]⟩

/-- Settles O13: what each host action writes, and that it keeps memory's form and `x0`. -/
theorem hostKeepsMemoryAndX0 : Obligations.HostKeepsMemoryAndX0 := fun s a hm hx =>
  ⟨hostApply_wf a hm, hostApply_x0 a hx, hostApply_cfg a s, hostApply_writes a hm⟩

/-! ### Printed encodings -/

/-- Settles O4: each word is decoded. -/
theorem sampleWordsDecode : Obligations.SampleWordsDecode := by
  unfold Obligations.SampleWordsDecode
  decide +kernel

theorem decode_of_none_selected {l : List Code} (h : (l.all fun c => (selectRow c).isNone) = true) (cfg : Config) :
    ∀ c ∈ l, decode cfg c = .error (.reserved c.raw) := fun c hc =>
  decode_of_selectRow_none (Option.isNone_iff_eq_none.1 (List.all_eq_true.1 h c hc)) cfg

/-- Settles O5: no row of the opcode table accepts any of them. -/
theorem reservedWordsAreIllegal : Obligations.ReservedWordsAreIllegal := fun cfg =>
  ⟨fun _ hw => decode_of_none_selected (by decide +kernel) cfg _ (List.mem_map_of_mem (f := Code.word) hw),
    fun _ hh => decode_of_none_selected (by decide +kernel) cfg _ (List.mem_map_of_mem (f := Code.half) hh)⟩

end Sys2Proof.Machine
end

section
/-!
PROOFS. The floating-point instructions (47_f_single.md, 48_d_double.md): each resolves its rounding mode, if it has
one, and finishes with what the kernel returns.
-/

namespace Sys2Proof.Machine

/-! ### Finishing with the kernel's result -/

section
variable {s : State} {rm : BitVec 3} {m : RoundingMode} {raw : Word} {k : RoundingMode → Result}

theorem rounded_single {rd : FReg} {r : Word × FlagSet} (h : resolveRm rm s = some m) (hk : k m = finishS rd r s) :
    Commits s (singleEffect s rd r) (withRm rm raw s k) := by
  rw [withRm_some h, hk]
  exact finishS_commits rd r s

theorem rounded_double {rd : FReg} {r : DWord × FlagSet} (h : resolveRm rm s = some m) (hk : k m = finishD rd r s) :
    Commits s (doubleEffect s rd r) (withRm rm raw s k) := by
  rw [withRm_some h, hk]
  exact finishD_commits rd r s

theorem rounded_int {rd : Reg} {r : Word × FlagSet} (h : resolveRm rm s = some m) (hk : k m = finishX rd r s) :
    Commits s (intEffect s rd r) (withRm rm raw s k) := by
  rw [withRm_some h, hk]
  exact finishX_commits rd r s

end

/-- Settles O40: the nine instructions name their kernel operation and its operands. -/
theorem singleArithmetic : Obligations.SingleArithmetic := fun _ _ _ _ _ _ _ h =>
  ⟨rounded_single h rfl, rounded_single h rfl, rounded_single h rfl, rounded_single h rfl, rounded_single h rfl,
    rounded_single h rfl, rounded_single h rfl, rounded_single h rfl, rounded_single h rfl⟩

/-- Settles O41: the nine instructions name their kernel operation and its operands. -/
theorem doubleArithmetic : Obligations.DoubleArithmetic := fun _ _ _ _ _ _ _ h =>
  ⟨rounded_double h rfl, rounded_double h rfl, rounded_double h rfl, rounded_double h rfl, rounded_double h rfl,
    rounded_double h rfl, rounded_double h rfl, rounded_double h rfl, rounded_double h rfl⟩

/-- Settles O44: the ten conversions name their kernel operation and its operand. -/
theorem fpConversions : Obligations.FpConversions := fun _ _ _ _ _ _ _ h =>
  ⟨rounded_int h rfl, rounded_int h rfl, rounded_int h rfl, rounded_int h rfl, rounded_single h rfl,
    rounded_single h rfl, rounded_double h rfl, rounded_double h rfl, rounded_single h rfl, rounded_double h rfl⟩

/-! ### Sign injection on bits (R320) -/

section
variable {fmt : Fmt} (x y : BitVec fmt.width)

theorem Kernel.sign_select : (if Kernel.sign y then Kernel.signMask fmt else 0#_) = y &&& Kernel.signMask fmt :=
  (BitVec.and_twoPow y _).symm

theorem Kernel.sgnj_eq :
    Kernel.sgnj fmt x y = x &&& ~~~Kernel.signMask fmt ||| y &&& Kernel.signMask fmt := by
  rw [Kernel.sgnj, Kernel.withSign, Kernel.sign_select]

theorem Kernel.sign_not : Kernel.sign (fmt := fmt) (~~~y) = !Kernel.sign y := by
  have h : 0 < fmt.width := by cases fmt <;> decide
  rw [Kernel.sign, Kernel.sign, BitVec.getLsbD_not, decide_eq_true (Nat.sub_one_lt_of_lt h), Bool.true_and]

theorem Kernel.sgnjn_eq :
    Kernel.sgnjn fmt x y = x &&& ~~~Kernel.signMask fmt ||| ~~~y &&& Kernel.signMask fmt := by
  rw [Kernel.sgnjn, Kernel.withSign, ← Kernel.sign_not, Kernel.sign_select]

/-- On the sign bit both sides are the exclusive or of the signs, elsewhere they are `x`. -/
theorem Kernel.sgnjx_eq : Kernel.sgnjx fmt x y = x ^^^ (y &&& Kernel.signMask fmt) := by
  rw [Kernel.sgnjx, Kernel.withSign, ← Kernel.sign_select y]
  ext i hi
  by_cases h : i = fmt.width - 1
  · subst h
    have hx : Kernel.sign x = x[fmt.width - 1] := BitVec.getLsbD_eq_getElem hi
    rw [hx]
    cases hb : x[fmt.width - 1] <;> cases Kernel.sign y <;> simp [Kernel.signMask, hb]
  · cases Kernel.sign x <;> cases Kernel.sign y <;> simp [Kernel.signMask, h]

end

section
variable {s : State}

/-- A result that raises no flag. -/
theorem finishS_quiet {rd : FReg} {r v : Word} (h : r = v) :
    Commits s (singleEffect s rd (v, 0#5)) (finishS rd (r, noFlags) s) :=
  h ▸ finishS_commits rd (r, noFlags) s

theorem finishD_quiet {rd : FReg} {r v : DWord} (h : r = v) :
    Commits s (doubleEffect s rd (v, 0#5)) (finishD rd (r, noFlags) s) :=
  h ▸ finishD_commits rd (r, noFlags) s

theorem finishX_quiet {rd : Reg} {r v : Word} (h : r = v) :
    Commits s (intEffect s rd (v, 0#5)) (finishX rd (r, noFlags) s) :=
  h ▸ finishX_commits rd (r, noFlags) s

end

theorem lowF_eq (s : State) (r : FReg) : s.lowF r = (s.getF r).setWidth 32 :=
  (BitVec.setWidth_eq_extractLsb' (v := 64) (w := 32) (by decide)).symm

/-- Settles O42: sign injection on the bits, the kernel's choices and comparisons, and the raw moves. -/
theorem singleWithoutRounding : Obligations.SingleWithoutRounding := fun s _ _ _ _ _ =>
  ⟨finishS_quiet (Kernel.sgnj_eq (fmt := .single) _ _), finishS_quiet (Kernel.sgnjn_eq (fmt := .single) _ _),
    finishS_quiet (Kernel.sgnjx_eq (fmt := .single) _ _), finishS_commits _ _ _, finishS_commits _ _ _,
    finishX_commits _ _ _, finishX_commits _ _ _, finishX_commits _ _ _, finishX_quiet rfl,
    finishX_quiet (lowF_eq s _), finishS_quiet rfl⟩

/-- Settles O43: sign injection on the bits, and the kernel's choices and comparisons. -/
theorem doubleWithoutRounding : Obligations.DoubleWithoutRounding := fun _ _ _ _ _ =>
  ⟨finishD_quiet (Kernel.sgnj_eq (fmt := .double) _ _), finishD_quiet (Kernel.sgnjn_eq (fmt := .double) _ _),
    finishD_quiet (Kernel.sgnjx_eq (fmt := .double) _ _), finishD_commits _ _ _, finishD_commits _ _ _,
    finishX_commits _ _ _, finishX_commits _ _ _, finishX_commits _ _ _, finishX_quiet rfl⟩

/-! ### The rounding mode (R370) -/

theorem RoundingMode.ofBits_eq (b : BitVec 3) :
    RoundingMode.ofBits b = [RoundingMode.rne, .rtz, .rdn, .rup, .rmm][b.toNat]? := by
  revert b
  decide

theorem resolveRm_eq (rm : BitVec 3) (s : State) :
    resolveRm rm s = RoundingMode.ofBits (if rm = 7#3 then s.frm else rm) :=
  (apply_ite _ _ _ _).symm

theorem withRm_unresolved {rm : BitVec 3} {raw : Word} {s : State} {k : RoundingMode → Result}
    (h : resolveRm rm s = none) : withRm rm raw s k = Trapped s (.illegalInstruction raw) [] :=
  (withRm_none h).trans (trapped_eq s _)

/-- Settles O45: the table of modes, and the trap with the instruction's own word where there is none. -/
theorem roundingModeResolution : Obligations.RoundingModeResolution := by
  intro s rd rs1 rs2 rs3 xd xs rm
  refine ⟨(resolveRm_eq rm s).trans (RoundingMode.ofBits_eq _), fun h i hi => ?_⟩
  simp only [List.mem_cons, List.not_mem_nil, or_false] at hi
  obtain rfl | rfl | rfl | rfl | rfl | rfl | rfl | rfl | rfl | rfl | rfl | rfl | rfl | rfl | rfl | rfl | rfl | rfl |
    rfl | rfl | rfl | rfl | rfl | rfl | rfl | rfl | rfl | rfl := hi
  all_goals exact traps_ownWord rfl (withRm_unresolved h)

end Sys2Proof.Machine
end

section
/-!
PROOFS. The 16-bit instructions run as their expansions (49_c_compressed.md R116, R450): both are one shared operation,
which differs only in the instruction's length.
-/

namespace Sys2Proof.Machine

/-- What CompressedRunsAsItsExpansion says of one instruction `i` and its expansion `j`. -/
def RunsAs (s : State) (i j : Instr) : Prop :=
  ∀ t, exec j s = .next t →
    (t.answer ≠ .ok → exec i s = .next t) ∧
    (t.answer = .ok → takenTarget s j = none → exec i s = .next { t with pc := s.pc + 2#32 }) ∧
    (t.answer = .ok → takenTarget s j ≠ none →
      ∃ u, exec i s = .next u ∧ u = { t with x := u.x } ∧
        ∀ k, u.getX k = if k = 1 ∧ ((∃ imm, i = .cJal imm) ∨ ∃ r, i = .cJalr r) then s.pc + 2#32 else t.getX k)

/-! ### Operations that fall through or trap -/

/-- Whatever its length, the operation ends in the same trap, or retires the same state. -/
def Sequential (s : State) (f : Word → Result) : Prop :=
  (∃ u, u.pc = s.pc ∧ ∀ ilen, f ilen = .next (retire ilen u)) ∨ ∃ tr u, ∀ ilen, f ilen = .next (takeTrap tr u)

section
variable {s : State} {ea : Word}

theorem writeX_sequential (rd : Reg) (v : Word) : Sequential s fun ilen => writeX ilen rd v s :=
  .inl ⟨s.setX rd v, State.setX_pc rd v s, fun _ => rfl⟩

/-- A load that ends in one way for every length. -/
theorem loadThen_sequential {n : Nat} {k : Word → BitVec (8 * n) → State → Result}
    (hk : ∀ v u, u.pc = s.pc → ∃ u', u'.pc = s.pc ∧ ∀ ilen, k ilen v u = .next (retire ilen u')) :
    Sequential s fun ilen => loadThen n ea s (k ilen) := by
  cases ha : aligned ea n with
  | false => exact .inr ⟨_, _, fun _ => loadThen_misaligned ha⟩
  | true =>
    cases hp : accepts s.map .load ea n with
    | false => exact .inr ⟨_, _, fun _ => (loadThen_aligned ha).trans (readThen_refused hp)⟩
    | true =>
      obtain ⟨u', hpc, hu'⟩ := hk (readBytes n s.mem ea) (s.request (.load ea n)) rfl
      exact .inl ⟨u', hpc, fun ilen => ((loadThen_aligned ha).trans (readThen_accepted hp)).trans (hu' ilen)⟩

theorem loadX_sequential {n : Nat} (extend : BitVec (8 * n) → Word) (rd : Reg) :
    Sequential s fun ilen => loadX ilen n extend rd ea s :=
  loadThen_sequential fun v u hu => ⟨u.setX rd (extend v), (State.setX_pc _ _ u).trans hu, fun _ => rfl⟩

theorem loadS_sequential (rd : FReg) : Sequential s fun ilen => loadS ilen rd ea s :=
  loadThen_sequential fun v u hu => ⟨u.writeS rd v, hu, fun _ => rfl⟩

theorem loadD_sequential (rd : FReg) : Sequential s fun ilen => loadD ilen rd ea s :=
  loadThen_sequential fun v u hu => ⟨u.setF rd v, hu, fun _ => rfl⟩

theorem storeBytes_sequential {n : Nat} (v : BitVec (8 * n)) : Sequential s fun ilen => storeBytes ilen n ea v s := by
  cases ha : aligned ea n with
  | false => exact .inr ⟨_, _, fun _ => storeThen_misaligned ha⟩
  | true =>
    cases hp : accepts s.map .store ea n with
    | false => exact .inr ⟨_, _, fun _ => (storeThen_aligned ha).trans (writeThen_refused hp)⟩
    | true =>
      refine .inl ⟨(s.request (.store ea n v.toNat)).stored n ea v, rfl, fun ilen => ?_⟩
      exact (storeThen_aligned ha).trans (writeThen_accepted (v := v) hp)

end

/-! ### Both lengths of one operation -/

section
variable {s : State} {i j : Instr}

theorem RunsAs.sequential {f : Word → Result} (hf : Sequential s f) (htaken : takenTarget s j = none)
    (hi : exec i s = f 2#32) (hj : exec j s = f 4#32) : RunsAs s i j := by
  intro t ht
  rw [hj] at ht
  obtain ⟨u, hpc, hu⟩ | ⟨tr, u, hu⟩ := hf
  · obtain rfl := Host.Outcome.next.inj ((hu _).symm.trans ht)
    refine ⟨fun h => absurd rfl h, fun _ _ => ?_, fun _ h => absurd htaken h⟩
    rw [hi, hu, ← hpc]
    rfl
  · obtain rfl := Host.Outcome.next.inj ((hu _).symm.trans ht)
    exact ⟨fun _ => hi.trans (hu _), nofun, nofun⟩

theorem RunsAs.jump {rd : Reg} {target : Word} (hi : exec i s = jumpTo 2#32 rd target s)
    (hj : exec j s = jumpTo 4#32 rd target s) (htaken : takenTarget s j ≠ none)
    (hlink : rd = 0 ∧ ¬((∃ imm, i = .cJal imm) ∨ ∃ r, i = .cJalr r) ∨
      rd = 1 ∧ ((∃ imm, i = .cJal imm) ∨ ∃ r, i = .cJalr r)) : RunsAs s i j := by
  intro t ht
  rw [hj] at ht
  rw [hi]
  cases ha : aligned target s.cfg.ialign with
  | false =>
    obtain rfl := Host.Outcome.next.inj ((jumpTo_misaligned ha).symm.trans ht)
    exact ⟨fun _ => jumpTo_misaligned ha, nofun, nofun⟩
  | true =>
    have hjump : ∀ ilen, jumpTo ilen rd target s = .next (commitAt target (s.setX rd (s.pc + ilen))) := fun _ =>
      targetThen_aligned ha
    obtain rfl := Host.Outcome.next.inj ((hjump _).symm.trans ht)
    refine ⟨fun h => absurd rfl h, fun _ h => absurd h htaken, fun _ _ => ⟨_, hjump _, ?_, fun k => ?_⟩⟩
    · obtain ⟨rfl, -⟩ | ⟨rfl, -⟩ := hlink <;> rfl
    · obtain ⟨rfl, hl⟩ | ⟨rfl, hl⟩ := hlink
      · rw [if_neg fun h => hl h.2]
        rfl
      · refine (getX_setX 1 k _ s).trans ?_
        refine Eq.trans ?_ (congrArg _ (getX_setX 1 k _ s).symm)
        by_cases hk : k = 1 <;> simp [hk, hl]

theorem RunsAs.branch {b : Bool} {offset : Word} (hi : exec i s = branchIf 2#32 b offset s)
    (hj : exec j s = branchIf 4#32 b offset s) (htaken : takenTarget s j = none ↔ b = false)
    (hlink : ¬((∃ imm, i = .cJal imm) ∨ ∃ r, i = .cJalr r)) : RunsAs s i j := by
  cases b with
  | false =>
    exact RunsAs.sequential (f := fun ilen => branchIf ilen false offset s) (.inl ⟨s, rfl, fun _ => rfl⟩)
      (htaken.2 rfl) hi hj
  | true =>
    intro t ht
    have heq : exec i s = .next t := by
      rw [hi, ← ht, hj]
      rfl
    refine ⟨fun _ => heq, fun _ h => Bool.noConfusion (htaken.1 h), fun _ _ => ⟨t, heq, rfl, fun k => ?_⟩⟩
    rw [if_neg fun h => hlink h.2]

end

/-! ### The immediates of the expansions -/

theorem sext_signExtend {n k : Nat} (v : BitVec n) (hn : n ≤ k) (hk : k ≤ 32) : sext (v.signExtend k) = sext v := by
  apply BitVec.eq_of_toInt_eq
  rw [sext, sext, BitVec.toInt_signExtend_of_le hk, BitVec.toInt_signExtend_of_le hn,
    BitVec.toInt_signExtend_of_le (hn.trans hk)]

theorem sext_setWidth {n : Nat} (v : BitVec n) (hn : n < 12) : sext (v.setWidth 12) = zext v := by
  have hmsb : (v.setWidth 12).msb = false := by
    rw [BitVec.msb_setWidth, BitVec.getLsbD_of_ge v 11 (by omega), Bool.and_false]
  have hlt : v.toNat < 2 ^ 12 := v.isLt.trans_le (Nat.pow_le_pow_right (by decide) hn.le)
  rw [sext, zext, BitVec.signExtend_eq_setWidth_of_msb_false hmsb]
  apply BitVec.eq_of_toNat_eq
  rw [BitVec.toNat_setWidth, BitVec.toNat_setWidth, BitVec.toNat_setWidth, Nat.mod_eq_of_lt hlt]

/-- A word without bits below bit 12 is put together from the bits above. -/
theorem upperImm_extract {v : Word} (h : v.extractLsb' 0 12 = 0#12) : upperImm (v.extractLsb' 12 20) = v := by
  rw [upperImm, ← h]
  exact BitVec.extractLsb'_append_extractLsb' (w := 20) (len := 12)

/-- The immediate of a 16-bit `lui` has no bits below bit 12 (R467). -/
theorem sext_low_zero {v : BitVec 18} (h : multipleOf 4096 v = true) : (sext v).extractLsb' 0 12 = 0#12 := by
  have hlow : (sext v).extractLsb' 0 12 = v.extractLsb' 0 12 := by
    ext i hi
    rw [BitVec.getElem_extractLsb', BitVec.getElem_extractLsb', sext, BitVec.getLsbD_signExtend,
      if_pos (by omega), decide_eq_true (by omega), Bool.true_and]
  rw [hlow]
  apply BitVec.eq_of_toNat_eq
  rw [toNat_extractLsb'_zero]
  exact beq_iff_eq.1 h

theorem sext_zero : sext 0#12 = 0#32 := by decide

section
variable {s : State} {i j : Instr}

theorem RunsAs.writeX {rd : Reg} {v v' : Word} (hv : v' = v) (htaken : takenTarget s j = none)
    (hi : exec i s = writeX 2#32 rd v s) (hj : exec j s = writeX 4#32 rd v' s) : RunsAs s i j :=
  .sequential (writeX_sequential rd v) htaken hi (hv ▸ hj)

/-- Loads and stores: the effective address of the expansion is that of the 16-bit form (R118). -/
theorem RunsAs.access {f : Word → Word → Result} {rs1 : Reg} {n : Nat} (uimm : BitVec n) (hn : n < 12)
    (hf : ∀ ea, Sequential s fun ilen => f ilen ea) (htaken : takenTarget s j = none)
    (hi : exec i s = f 2#32 (s.eaZ rs1 uimm)) (hj : exec j s = f 4#32 (s.ea rs1 (uimm.setWidth 12))) :
    RunsAs s i j := by
  rw [State.ea, sext_setWidth uimm hn] at hj
  exact .sequential (hf _) htaken hi hj

end

theorem add_sext_signExtend (a : Word) {n k : Nat} (v : BitVec n) (hn : n ≤ k) (hk : k ≤ 32) :
    a + sext (v.signExtend k) = a + sext v := by
  rw [sext_signExtend v hn hk]

/-- Settles O49: each expansion is the same operation with length 4. -/
theorem compressedRunsAsItsExpansion : Obligations.CompressedRunsAsItsExpansion := by
  intro s t i j hwf hexp ht
  refine (?_ : RunsAs s i j) t ht
  clear ht
  revert hexp
  cases i with
  | cAddi4spn rd imm =>
    rintro ⟨⟩
    exact .writeX (congrArg (s.getX 2 + ·) (sext_setWidth imm (by decide))) rfl rfl rfl
  | cNop imm =>
    rintro ⟨⟩
    exact .writeX (add_sext_signExtend _ imm (by decide) (by decide)) rfl rfl rfl
  | cAddi rd imm =>
    rintro ⟨⟩
    exact .writeX (add_sext_signExtend _ imm (by decide) (by decide)) rfl rfl rfl
  | cLi rd imm =>
    rintro ⟨⟩
    exact .writeX (add_sext_signExtend _ imm (by decide) (by decide)) rfl rfl rfl
  | cAddi16sp imm =>
    rintro ⟨⟩
    exact .writeX (add_sext_signExtend _ imm (by decide) (by decide)) rfl rfl rfl
  | cLui rd imm =>
    rintro ⟨⟩
    exact .writeX (upperImm_extract (sext_low_zero (Bool.and_eq_true_iff.1 hwf).2)) rfl rfl rfl
  | cAndi rd imm =>
    rintro ⟨⟩
    exact .writeX (congrArg (s.getX (fromSmall rd) &&& ·) (sext_signExtend imm (by decide) (by decide))) rfl rfl rfl
  | cSrli | cSrai | cSub | cXor | cOr | cAnd | cSlli | cMv | cAdd =>
    rintro ⟨⟩
    exact .writeX rfl rfl rfl rfl
  | cFld rd rs1 imm | cFldsp rd imm =>
    rintro ⟨⟩
    exact .access (f := fun ilen ea => loadD ilen _ ea s) imm (by decide) (fun _ => loadD_sequential _) rfl rfl rfl
  | cLw rd rs1 imm | cLwsp rd imm =>
    rintro ⟨⟩
    exact .access (f := fun ilen ea => loadX ilen 4 zext _ ea s) imm (by decide)
      (fun _ => loadX_sequential zext _) rfl rfl rfl
  | cFlw rd rs1 imm | cFlwsp rd imm =>
    rintro ⟨⟩
    exact .access (f := fun ilen ea => loadS ilen _ ea s) imm (by decide) (fun _ => loadS_sequential _) rfl rfl rfl
  | cFsd rs1 rs2 imm =>
    rintro ⟨⟩
    exact .access (f := fun ilen ea => storeBytes ilen 8 ea (s.getF (fromSmall rs2)) s) imm (by decide)
      (fun _ => storeBytes_sequential _) rfl rfl rfl
  | cFsdsp rs2 imm =>
    rintro ⟨⟩
    exact .access (f := fun ilen ea => storeBytes ilen 8 ea (s.getF rs2) s) imm (by decide)
      (fun _ => storeBytes_sequential _) rfl rfl rfl
  | cSw rs1 rs2 imm =>
    rintro ⟨⟩
    exact .access (f := fun ilen ea => storeBytes ilen 4 ea (s.getX (fromSmall rs2)) s) imm (by decide)
      (fun _ => storeBytes_sequential _) rfl rfl rfl
  | cSwsp rs2 imm =>
    rintro ⟨⟩
    exact .access (f := fun ilen ea => storeBytes ilen 4 ea (s.getX rs2) s) imm (by decide)
      (fun _ => storeBytes_sequential _) rfl rfl rfl
  | cFsw rs1 rs2 imm =>
    rintro ⟨⟩
    exact .access (f := fun ilen ea => storeBytes ilen 4 ea (s.lowF (fromSmall rs2)) s) imm (by decide)
      (fun _ => storeBytes_sequential _) rfl rfl rfl
  | cFswsp rs2 imm =>
    rintro ⟨⟩
    exact .access (f := fun ilen ea => storeBytes ilen 4 ea (s.lowF rs2) s) imm (by decide)
      (fun _ => storeBytes_sequential _) rfl rfl rfl
  | cJal imm =>
    rintro ⟨⟩
    exact .jump (rd := 1) rfl (congrArg (jumpTo 4#32 1 · s) (add_sext_signExtend _ imm (by decide) (by decide))) nofun
      (.inr ⟨rfl, .inl ⟨imm, rfl⟩⟩)
  | cJ imm =>
    rintro ⟨⟩
    exact .jump (rd := 0) rfl (congrArg (jumpTo 4#32 0 · s) (add_sext_signExtend _ imm (by decide) (by decide))) nofun
      (.inl ⟨rfl, nofun⟩)
  | cJr rs1 =>
    rintro ⟨⟩
    exact .jump (rd := 0) rfl (congrArg (fun v => jumpTo 4#32 0 (jalrTarget (s.getX rs1) v) s) sext_zero) nofun
      (.inl ⟨rfl, nofun⟩)
  | cJalr rs1 =>
    rintro ⟨⟩
    exact .jump (rd := 1) rfl (congrArg (fun v => jumpTo 4#32 1 (jalrTarget (s.getX rs1) v) s) sext_zero) nofun
      (.inr ⟨rfl, .inr ⟨rs1, rfl⟩⟩)
  | cBeqz rs1 imm =>
    rintro ⟨⟩
    exact .branch (b := s.getX (fromSmall rs1) == s.getX 0) rfl
      (congrArg (branchIf 4#32 _ · s) (sext_signExtend imm (by decide) (by decide)))
      (by rw [takenTarget, ite_eq_right_iff]; simp) nofun
  | cBnez rs1 imm =>
    rintro ⟨⟩
    exact .branch (b := s.getX (fromSmall rs1) != s.getX 0) rfl
      (congrArg (branchIf 4#32 _ · s) (sext_signExtend imm (by decide) (by decide)))
      (by rw [takenTarget, ite_eq_left_iff]; simp) nofun
  | cEbreak =>
    rintro ⟨⟩
    exact .sequential (f := fun _ => .next (takeTrap .breakpoint s)) (.inr ⟨_, _, fun _ => rfl⟩) rfl rfl rfl
  | _ => exact nofun

end Sys2Proof.Machine
end

section
/-!
PROOFS. Without RV32FD nothing observes or changes the `f` registers and `fcsr` (00_scope.md R6): every operation an
enabled instruction is made of commutes with replacing them.
-/

namespace Sys2Proof.Machine

/-- The state with other `f` registers and another `fcsr`. -/
def State.withFp (f : Vector DWord 32) (fcsr : BitVec 8) (s : State) : State :=
  { s with f := f, fcsr := fcsr }

/-- The same of the next state, if there is one. -/
def resultWithFp (f : Vector DWord 32) (fcsr : BitVec 8) : Result → Result
  | .next t => .next (t.withFp f fcsr)
  | r => r

section
variable {f : Vector DWord 32} {fcsr : BitVec 8}

@[simp] theorem resultWithFp_next (t : State) : resultWithFp f fcsr (.next t) = .next (t.withFp f fcsr) := rfl

theorem setX_withFp (r : Reg) (v : Word) (s : State) :
    (s.withFp f fcsr).setX r v = (s.setX r v).withFp f fcsr := by
  unfold State.setX
  split <;> rfl

theorem retire_setX_withFp (ilen : Word) (r : Reg) (v : Word) (s : State) :
    (.next (retire ilen ((s.withFp f fcsr).setX r v)) : Result) =
      resultWithFp f fcsr (.next (retire ilen (s.setX r v))) := by
  rw [setX_withFp]
  rfl

theorem writeX_withFp (ilen : Word) (r : Reg) (v : Word) (s : State) :
    writeX ilen r v (s.withFp f fcsr) = resultWithFp f fcsr (writeX ilen r v s) :=
  retire_setX_withFp ilen r v s

theorem readThen_withFp {n : Nat} (ea : Word) (s : State) {k : BitVec (8 * n) → State → Result}
    (hk : ∀ v u, k v (u.withFp f fcsr) = resultWithFp f fcsr (k v u)) :
    readThen n ea (s.withFp f fcsr) k = resultWithFp f fcsr (readThen n ea s k) := by
  cases hp : accepts s.map .load ea n with
  | true =>
    rw [readThen_accepted hp, readThen_accepted (s := s.withFp f fcsr) hp]
    exact hk _ (s.request (.load ea n))
  | false =>
    rw [readThen_refused hp, readThen_refused (s := s.withFp f fcsr) hp]
    rfl

theorem writeThen_withFp {n : Nat} (ea : Word) (v : BitVec (8 * n)) (s : State) {k : State → Result}
    (hk : ∀ u, k (u.withFp f fcsr) = resultWithFp f fcsr (k u)) :
    writeThen n ea v (s.withFp f fcsr) k = resultWithFp f fcsr (writeThen n ea v s k) := by
  cases hp : accepts s.map .store ea n with
  | true =>
    rw [writeThen_accepted hp, writeThen_accepted (s := s.withFp f fcsr) hp]
    exact hk ((s.request (.store ea n v.toNat)).stored n ea v)
  | false =>
    rw [writeThen_refused hp, writeThen_refused (s := s.withFp f fcsr) hp]
    rfl

theorem loadX_withFp (ilen : Word) (n : Nat) (extend : BitVec (8 * n) → Word) (rd : Reg) (ea : Word) (s : State) :
    loadX ilen n extend rd ea (s.withFp f fcsr) = resultWithFp f fcsr (loadX ilen n extend rd ea s) := by
  unfold loadX
  cases ha : aligned ea n with
  | true =>
    rw [loadThen_aligned ha, loadThen_aligned ha]
    exact readThen_withFp ea s fun v u => retire_setX_withFp ilen rd (extend v) u
  | false =>
    rw [loadThen_misaligned ha, loadThen_misaligned ha]
    rfl

theorem storeBytes_withFp (ilen : Word) (n : Nat) (ea : Word) (v : BitVec (8 * n)) (s : State) :
    storeBytes ilen n ea v (s.withFp f fcsr) = resultWithFp f fcsr (storeBytes ilen n ea v s) := by
  unfold storeBytes
  cases ha : aligned ea n with
  | true =>
    rw [storeThen_aligned ha, storeThen_aligned ha]
    exact writeThen_withFp ea v s fun _ => rfl
  | false =>
    rw [storeThen_misaligned ha, storeThen_misaligned ha]
    rfl

theorem atomicThen_withFp (ea raw : Word) (s : State) {k : State → Result}
    (hk : k (s.withFp f fcsr) = resultWithFp f fcsr (k s)) :
    atomicThen ea raw (s.withFp f fcsr) k = resultWithFp f fcsr (atomicThen ea raw s k) := by
  cases ha : aligned ea 4 with
  | true =>
    rw [atomicThen_aligned ha, atomicThen_aligned ha]
    exact hk
  | false =>
    rw [atomicThen_misaligned ha, atomicThen_misaligned ha]
    rfl

theorem amo_withFp (raw : Word) (op : Word → Word → Word) (rd rs1 rs2 : Reg) (s : State) :
    amo raw op rd rs1 rs2 (s.withFp f fcsr) = resultWithFp f fcsr (amo raw op rd rs1 rs2 s) :=
  atomicThen_withFp _ raw s (readThen_withFp _ s fun old u =>
    writeThen_withFp _ _ u fun w => retire_setX_withFp 4#32 rd old w)

theorem execLrW_withFp (rd rs1 : Reg) (aq rl : Bool) (s : State) :
    execLrW rd rs1 aq rl (s.withFp f fcsr) = resultWithFp f fcsr (execLrW rd rs1 aq rl s) :=
  atomicThen_withFp _ _ s (readThen_withFp _ s fun v u => 
    retire_setX_withFp 4#32 rd v { u with reservation := some (u.getX rs1) })

theorem execScW_withFp (rd rs1 rs2 : Reg) (aq rl : Bool) (s : State) :
    execScW rd rs1 rs2 aq rl (s.withFp f fcsr) = resultWithFp f fcsr (execScW rd rs1 rs2 aq rl s) := by
  refine atomicThen_withFp _ _ s ?_
  by_cases h : s.reservation = some (s.getX rs1)
  · rw [if_pos h, if_pos (show (s.withFp f fcsr).reservation = some ((s.withFp f fcsr).getX rs1) from h)]
    exact writeThen_withFp _ _ s fun u => 
      retire_setX_withFp 4#32 rd 0#32 { u with reservation := none }
  · rw [if_neg h, if_neg (show (s.withFp f fcsr).reservation ≠ some ((s.withFp f fcsr).getX rs1) from h)]
    exact retire_setX_withFp 4#32 rd 1#32 { s with reservation := none }

theorem jumpTo_withFp (ilen : Word) (rd : Reg) (target : Word) (s : State) :
    jumpTo ilen rd target (s.withFp f fcsr) = resultWithFp f fcsr (jumpTo ilen rd target s) := by
  unfold jumpTo
  cases ha : aligned target s.cfg.ialign with
  | true =>
    rw [targetThen_aligned ha, targetThen_aligned (s := s.withFp f fcsr) ha, setX_withFp]
    rfl
  | false =>
    rw [targetThen_misaligned ha, targetThen_misaligned (s := s.withFp f fcsr) ha]
    rfl

theorem branchIf_withFp (ilen : Word) (taken : Bool) (offset : Word) (s : State) :
    branchIf ilen taken offset (s.withFp f fcsr) = resultWithFp f fcsr (branchIf ilen taken offset s) := by
  cases taken with
  | false => rfl
  | true =>
    show targetThen (s.pc + offset) (s.withFp f fcsr) _ = resultWithFp f fcsr (targetThen (s.pc + offset) s _)
    cases ha : aligned (s.pc + offset) s.cfg.ialign with
    | true =>
      rw [targetThen_aligned ha, targetThen_aligned (s := s.withFp f fcsr) ha]
      rfl
    | false =>
      rw [targetThen_misaligned ha, targetThen_misaligned (s := s.withFp f fcsr) ha]
      rfl

/-- Without RV32FD the counters are the only CSRs (R35, R37). -/
theorem csrAt_withoutFp {cfg : Config} {csr : BitVec 12} {c : Csr} (h : cfg.rv32fd = false)
    (hc : csrAt cfg csr = some c) : c = .clockLow ∨ c = .clockHigh := by
  unfold csrAt at hc
  split_ifs at hc with h1 h2 h3 h4 h5 <;> simp_all

theorem csrAccess_withFp {s : State} (h : s.cfg.rv32fd = false) (raw : Word) (csr : BitVec 12) (writes reads : Bool)
    (new : Word → Word) (rd : Reg) :
    csrAccess raw csr writes reads new rd (s.withFp f fcsr) =
      resultWithFp f fcsr (csrAccess raw csr writes reads new rd s) := by
  cases hc : csrAt s.cfg csr with
  | none =>
    rw [csrAccess_absent hc, csrAccess_absent (s := s.withFp f fcsr) hc]
    rfl
  | some c =>
    cases hp : writes && csrReadOnly csr with
    | true =>
      obtain ⟨rfl, hro⟩ := Bool.and_eq_true_iff.1 hp
      rw [csrAccess_readOnly hro, csrAccess_readOnly hro]
      rfl
    | false =>
      rw [csrAccess_allowed hc hp, csrAccess_allowed (s := s.withFp f fcsr) hc hp]
      have hwrite : ∀ (u : State) v, u.writeCsr v c = u ∧ (u.withFp f fcsr).readCsr c = u.readCsr c := by
        obtain rfl | rfl := csrAt_withoutFp h hc <;> exact fun _ _ => ⟨rfl, rfl⟩
      rw [(hwrite _ _).1, (hwrite _ _).1, ite_self, ite_self, (hwrite s 0#32).2]
      exact retire_setX_withFp 4#32 rd _ s

/-! ### Instructions and steps -/

/-- An instruction of a row that does not need RV32FD. -/
theorem exec_withFp {s : State} {i : Instr} (h : s.cfg.rv32fd = false) (hfd : i.cond ≠ .rv32fd)
    (hcfd : i.cond ≠ .rv32cAndFd) : exec i (s.withFp f fcsr) = resultWithFp f fcsr (exec i s) := by
  cases i with
  | lui | auipc | addi | slti | sltiu | xori | ori | andi | slli | srli | srai => exact writeX_withFp 4#32 _ _ s
  | add | sub | sll | slt | sltu | xor | srl | sra | or | and => exact writeX_withFp 4#32 _ _ s
  | mul | mulh | mulhsu | mulhu | div | divu | rem | remu => exact writeX_withFp 4#32 _ _ s
  | cAddi4spn | cNop | cAddi | cLi | cAddi16sp | cLui | cSrli | cSrai | cAndi | cSub | cXor | cOr | cAnd | cSlli | cMv
  | cAdd => exact writeX_withFp 2#32 _ _ s
  | jal | jalr => exact jumpTo_withFp 4#32 _ _ s
  | cJal | cJ | cJr | cJalr => exact jumpTo_withFp 2#32 _ _ s
  | beq | bne | blt | bge | bltu | bgeu => exact branchIf_withFp 4#32 _ _ s
  | cBeqz | cBnez => exact branchIf_withFp 2#32 _ _ s
  | lb | lbu => exact loadX_withFp 4#32 1 _ _ _ s
  | lh | lhu => exact loadX_withFp 4#32 2 _ _ _ s
  | lw => exact loadX_withFp 4#32 4 _ _ _ s
  | cLw | cLwsp => exact loadX_withFp 2#32 4 _ _ _ s
  | sb => exact storeBytes_withFp 4#32 1 _ _ s
  | sh => exact storeBytes_withFp 4#32 2 _ _ s
  | sw => exact storeBytes_withFp 4#32 4 _ _ s
  | cSw | cSwsp => exact storeBytes_withFp 2#32 4 _ _ s
  | lrW rd rs1 aq rl => exact execLrW_withFp rd rs1 aq rl s
  | scW rd rs1 rs2 aq rl => exact execScW_withFp rd rs1 rs2 aq rl s
  | amoswapW | amoaddW | amoxorW | amoandW | amoorW | amominW | amomaxW | amominuW | amomaxuW =>
    rw [exec, exec]
    exact amo_withFp _ _ _ _ _ s
  | csrrw | csrrs | csrrc | csrrwi | csrrsi | csrrci =>
    rw [exec, exec]
    exact csrAccess_withFp h _ _ _ _ _ _
  | fence | fenceI | wfi | ecall | ebreak | cEbreak => rfl
  | cFld | cFlw | cFsd | cFsw | cFldsp | cFlwsp | cFsdsp | cFswsp => exact absurd rfl hcfd
  | _ => exact absurd rfl hfd

/-- What was fetched, with other `f` registers and another `fcsr`. -/
def fetchedWithFp (f : Vector DWord 32) (fcsr : BitVec 8) : Fetched → Fetched
  | .code c u => .code c (u.withFp f fcsr)
  | .trapped tr u => .trapped tr (u.withFp f fcsr)

theorem fetchCode_withFp (s : State) : fetchCode (s.withFp f fcsr) = fetchedWithFp f fcsr (fetchCode s) := by
  cases ha : aligned s.pc s.cfg.ialign with
  | false =>
    rw [fetchCode_misaligned ha, fetchCode_misaligned (s := s.withFp f fcsr) ha]
    rfl
  | true =>
    cases hf : accepts s.map .fetch s.pc 2 with
    | false =>
      rw [fetchCode_refused ha hf, fetchCode_refused (s := s.withFp f fcsr) ha hf]
      rfl
    | true =>
      cases hc : isCompressed s.cfg (readBytes 2 s.mem s.pc) with
      | true =>
        rw [fetchCode_half ha hf hc, fetchCode_half (s := s.withFp f fcsr) ha hf hc]
        rfl
      | false =>
        cases hh : accepts s.map .fetch (s.pc + 2#32) 2 with
        | false =>
          rw [fetchCode_high_refused ha hf hc hh, fetchCode_high_refused (s := s.withFp f fcsr) ha hf hc hh]
          rfl
        | true =>
          rw [fetchCode_word ha hf hc hh, fetchCode_word (s := s.withFp f fcsr) ha hf hc hh]
          rfl

theorem fetchCode_cfg {s u : State} {c : Code} (h : fetchCode s = .code c u) : u.cfg = s.cfg := by
  obtain ⟨tr, q, hf⟩ | ⟨_, q, -, hf⟩ | ⟨_, q, hf⟩ := fetchCode_log s
  · exact nomatch hf.symm.trans h
  · obtain ⟨-, rfl⟩ := Fetched.code.inj (hf.symm.trans h)
    rfl
  · obtain ⟨-, rfl⟩ := Fetched.code.inj (hf.symm.trans h)
    rfl

theorem step_withFp {s : State} (h : s.cfg.rv32fd = false) :
    step (s.withFp f fcsr) = resultWithFp f fcsr (step s) := by
  have hfetch : fetchCode { s.withFp f fcsr with bus := [] } = fetchedWithFp f fcsr (fetchCode { s with bus := [] }) :=
    fetchCode_withFp { s with bus := [] }
  rw [step, step, hfetch]
  cases hs : fetchCode { s with bus := [] } with
  | trapped tr u => rfl
  | code c u =>
    show (match decode u.cfg c with
      | .error _ => .next (takeTrap (.illegalInstruction c.raw) (u.withFp f fcsr))
      | .ok i => exec i (u.withFp f fcsr)) = resultWithFp f fcsr (match decode u.cfg c with
      | .error _ => .next (takeTrap (.illegalInstruction c.raw) u)
      | .ok i => exec i u)
    cases hd : decode u.cfg c with
    | error e => rfl
    | ok i =>
      have hu : u.cfg.rv32fd = false := (congrArg Config.rv32fd (fetchCode_cfg hs)).trans h
      obtain ⟨hfd, -⟩ := (disabledExtensionIsIllegal u.cfg).2 c i hd
      have hoff : ¬(i.cond = .rv32fd ∨ i.cond = .rv32cAndFd) := fun hc => ne_true_of_eq_false hu (hfd hc)
      exact exec_withFp hu (fun hc => hoff (.inl hc)) fun hc => hoff (.inr hc)

end

/-- Settles O21: a step commutes with replacing the `f` registers and `fcsr`; replacing them by what they hold shows
that it changes neither. -/
theorem withoutFpNothingTouchesFp : Obligations.WithoutFpNothingTouchesFp := by
  intro s t f' fcsr' h hstep
  have hfp : ∀ f fcsr, step (s.withFp f fcsr) = .next (t.withFp f fcsr) := fun f fcsr => by
    rw [step_withFp h, hstep]
    rfl
  have hsame : t = t.withFp s.f s.fcsr := Host.Outcome.next.inj (hstep.symm.trans (hfp s.f s.fcsr))
  refine ⟨?_, ?_, hfp f' fcsr'⟩
  · rw [hsame]
    rfl
  · rw [hsame]
    rfl

end Sys2Proof.Machine
end

section
/-!
SUPPORT. The kernel's rounding is the rounding of the rules (46_fp_kernel.md R307, R308): a significand, an exponent and
a sticky bit stand for an exact magnitude, and what `roundPack` computes from them with integers is `RoundPack` of that
magnitude over the reals.
-/

namespace Sys2Proof.Machine.Kernel

/-! ### Fractions known up to a sticky part -/

/-- `q` is `num / den` exactly, or with `sticky` lies strictly between it and the next fraction. -/
def Between (num den : Nat) (sticky : Bool) (q : ℝ) : Prop :=
  if sticky then (num : ℝ) / den < q ∧ q < (num + 1) / den else q = num / den

section
variable {num den : Nat} {sticky : Bool} {q : ℝ}

theorem Between.le (h : Between num den sticky q) : (num : ℝ) / den ≤ q := by
  cases sticky with
  | false => exact le_of_eq (Eq.symm h)
  | true => exact h.1.le

theorem Between.lt (h : Between num den sticky q) (hden : 0 < den) : q < (num + 1) / den := by
  have hd : (0 : ℝ) < den := Nat.cast_pos.2 hden
  cases sticky with
  | false =>
    rw [show q = num / den from h]
    exact div_lt_div_of_pos_right (lt_add_one _) hd
  | true => exact h.2

theorem Between.floor_eq (h : Between num den sticky q) (hden : 0 < den) : ⌊q⌋ = (num / den : Nat) := by
  have hd : (0 : ℝ) < den := Nat.cast_pos.2 hden
  rw [Int.floor_eq_iff, Int.cast_natCast]
  refine ⟨Nat.cast_div_le.trans h.le, (h.lt hden).trans_le ?_⟩
  rw [div_le_iff₀ hd, mul_comm]
  exact_mod_cast Nat.lt_mul_div_succ num hden

/-- The part beyond the floor is the fraction of the remainder. -/
theorem Between.frac (h : Between num den sticky q) (hden : 0 < den) :
    Between (num % den) den sticky (q - (num / den : Nat)) := by
  have hd : (0 : ℝ) < den := Nat.cast_pos.2 hden
  have hnum : (num : ℝ) / den = (num / den : Nat) + (num % den : Nat) / den := by
    rw [eq_comm, ← eq_sub_iff_add_eq', ← mul_left_inj' hd.ne', sub_mul, div_mul_cancel₀ _ hd.ne',
      div_mul_cancel₀ _ hd.ne', eq_sub_iff_add_eq, add_comm]
    exact_mod_cast (Nat.div_add_mod' num den)
  cases sticky with
  | false =>
    show _ = _
    rw [show q = num / den from h, hnum]
    ring
  | true =>
    obtain ⟨hl, hr⟩ := h
    rw [add_div, hnum] at hr
    rw [hnum] at hl
    constructor
    · linarith
    · rw [add_div]
      linarith

/-! The comparisons of such a fraction with 0 and one half. -/

theorem Between.eq_zero_iff (h : Between num den sticky q) (hden : 0 < den) : q = 0 ↔ num = 0 ∧ sticky = false := by
  have hd : (0 : ℝ) < den := Nat.cast_pos.2 hden
  cases sticky with
  | false =>
    rw [show q = num / den from h, div_eq_zero_iff, Nat.cast_eq_zero]
    simp [hd.ne']
  | true =>
    have hpos : 0 < q := lt_of_le_of_lt (by positivity) h.1
    simp [hpos.ne']

theorem Between.half_lt_iff (h : Between num den sticky q) (hden : 0 < den) (heven : sticky = true → 2 ∣ den) :
    1 / 2 < q ↔ den < 2 * num ∨ 2 * num = den ∧ sticky = true := by
  have hd : (0 : ℝ) < den := Nat.cast_pos.2 hden
  cases sticky with
  | false =>
    rw [show q = num / den from h, div_lt_div_iff₀ two_pos hd]
    simp only [one_mul, Bool.false_eq_true, and_false, or_false]
    rw [mul_comm]
    exact_mod_cast Iff.rfl
  | true =>
    obtain ⟨hl, hr⟩ := h
    obtain ⟨half, rfl⟩ := heven rfl
    rw [lt_div_iff₀ hd] at hr
    rw [div_lt_iff₀ hd] at hl
    push_cast at hl hr hd
    constructor
    · intro hq
      by_contra hcon
      have hle : num + 1 ≤ half := by
        simp only [and_true, not_or] at hcon
        omega
      have hle' : (num : ℝ) + 1 ≤ half := by exact_mod_cast hle
      nlinarith
    · intro hcase
      have hle : half ≤ num := by omega
      have hle' : (half : ℝ) ≤ num := by exact_mod_cast hle
      nlinarith

theorem Between.eq_half_iff (h : Between num den sticky q) (hden : 0 < den) (heven : sticky = true → 2 ∣ den) :
    q = 1 / 2 ↔ 2 * num = den ∧ sticky = false := by
  have hd : (0 : ℝ) < den := Nat.cast_pos.2 hden
  cases sticky with
  | false =>
    rw [show q = num / den from h, div_eq_div_iff hd.ne' two_ne_zero]
    simp only [one_mul, and_true]
    rw [mul_comm]
    exact_mod_cast Iff.rfl
  | true =>
    simp only [Bool.true_eq_false, and_false, iff_false]
    rintro rfl
    obtain ⟨hl, hr⟩ := h
    obtain ⟨half, rfl⟩ := heven rfl
    rw [lt_div_iff₀ hd] at hr
    rw [div_lt_iff₀ hd] at hl
    push_cast at hl hr
    have h1 : num < half := by
      have : (num : ℝ) < half := by linarith
      exact_mod_cast this
    have h2 : half < num + 1 := by
      have : (half : ℝ) < num + 1 := by linarith
      exact_mod_cast this
    omega

/-! ### `RInt` (R307) -/

/-- The kernel's decision to round up is that of R307. -/
theorem Between.goesUp_eq (h : Between num den sticky q) (hden : 0 < den) (heven : sticky = true → 2 ∣ den)
    (m : RoundingMode) (s : Bool) (n : Nat) :
    goesUp m s (n : Int) q = roundsUp m s (n % 2 == 1)
      (decide (den < 2 * num) || (decide (2 * num = den) && sticky)) (decide (2 * num = den) && !sticky) := by
  have habove : decide (1 / 2 < q) = (decide (den < 2 * num) || (decide (2 * num = den) && sticky)) := by
    rw [Bool.eq_iff_iff]
    simpa only [Bool.or_eq_true, Bool.and_eq_true, decide_eq_true_eq] using h.half_lt_iff hden heven
  have htie : decide (q = 1 / 2) = (decide (2 * num = den) && !sticky) := by
    rw [Bool.eq_iff_iff]
    simpa only [Bool.and_eq_true, Bool.not_eq_true', decide_eq_true_eq] using h.eq_half_iff hden heven
  have hodd : ((n : Int) % 2 == 1) = (n % 2 == 1) := by
    rw [Bool.eq_iff_iff, beq_iff_eq, beq_iff_eq]
    omega
  have hle : decide (1 / 2 ≤ q) = (decide (1 / 2 < q) || decide (q = 1 / 2)) := by
    rw [Bool.eq_iff_iff]
    simp only [Bool.or_eq_true, decide_eq_true_eq, le_iff_lt_or_eq, eq_comm (a := q)]
  rw [← habove, ← htie]
  cases m with
  | rne => rw [goesUp, roundsUp, hodd]
  | rmm => rw [goesUp, roundsUp, hle]
  | _ => rfl

/-- An integer is rounded to itself, any other number to an integer it differs from. -/
theorem RInt_eq_self_iff (m : RoundingMode) (s : Bool) : ((RInt m s q : Int) : ℝ) = q ↔ q - ⌊q⌋ = 0 := by
  constructor
  · intro h
    rw [← h, Int.floor_intCast, sub_self]
  · intro h
    rw [RInt, if_pos h]
    linarith

/-- `RInt` of a number known up to a sticky part. -/
theorem Between.RInt_eq (h : Between num den sticky q) (hden : 0 < den) (heven : sticky = true → 2 ∣ den)
    (m : RoundingMode) (s : Bool) :
    RInt m s q = if num % den = 0 ∧ sticky = false then (num / den : Nat) else
      (if roundsUp m s (num / den % 2 == 1)
          (decide (den < 2 * (num % den)) || (decide (2 * (num % den) = den) && sticky))
          (decide (2 * (num % den) = den) && !sticky) then num / den + 1 else num / den : Nat) := by
  have hfrac := h.frac hden
  rw [RInt, h.floor_eq hden, Int.cast_natCast, hfrac.goesUp_eq hden heven]
  by_cases hz : num % den = 0 ∧ sticky = false
  · rw [if_pos hz, if_pos ((hfrac.eq_zero_iff hden).2 hz)]
  · rw [if_neg hz, if_neg (mt (hfrac.eq_zero_iff hden).1 hz)]
    split <;> rfl

end

/-! ### Exact magnitudes -/

/-- The exact magnitude a significand, an exponent and a sticky bit stand for: `mant * 2 ^ exp`, or with `sticky` a
number strictly between it and the next. -/
def Denotes (mant : Nat) (exp : Int) (sticky : Bool) (a : ℝ) : Prop :=
  if sticky then (mant : ℝ) * 2 ^ exp < a ∧ a < (mant + 1) * 2 ^ exp else a = mant * 2 ^ exp

section
variable {mant : Nat} {exp unit : Int} {sticky : Bool} {a : ℝ}

theorem two_zpow_sub (x y : Int) : (2 : ℝ) ^ x / 2 ^ y = (2 ^ (x - y).toNat : Nat) / (2 ^ (y - x).toNat : Nat) := by
  push_cast
  rw [← zpow_natCast, ← zpow_natCast, ← zpow_sub₀ two_ne_zero, ← zpow_sub₀ two_ne_zero]
  congr 1
  omega

/-- The magnitude in units of `2 ^ unit`, as the fraction the kernel divides. -/
theorem Denotes.between (h : Denotes mant exp sticky a) (hunit : sticky = true → exp < unit) :
    Between (mant * 2 ^ (exp - unit).toNat) (2 ^ (unit - exp).toNat) sticky (a / 2 ^ unit) := by
  have hpos : (0 : ℝ) < 2 ^ unit := by positivity
  cases sticky with
  | false =>
    show _ = _
    rw [show a = mant * 2 ^ exp from h, mul_div_assoc, two_zpow_sub]
    push_cast
    ring
  | true =>
    have hscale : (exp - unit).toNat = 0 := by have := hunit rfl; omega
    obtain ⟨hl, hr⟩ := h
    have hl' := div_lt_div_of_pos_right hl hpos
    have hr' := div_lt_div_of_pos_right hr hpos
    rw [mul_div_assoc, two_zpow_sub, hscale] at hl' hr'
    constructor
    · rw [hscale]
      simpa [div_eq_mul_inv] using hl'
    · rw [hscale]
      simpa [div_eq_mul_inv] using hr'

/-- The kernel's `rint` is `RInt` of the exact magnitude in units of `2 ^ unit`. -/
theorem Denotes.rint_fst (h : Denotes mant exp sticky a) (hunit : sticky = true → exp < unit) (m : RoundingMode)
    (s : Bool) : ((rint m s mant exp sticky unit).1 : Int) = RInt m s (a / 2 ^ unit) := by
  have heven : sticky = true → 2 ∣ 2 ^ (unit - exp).toNat := fun hs =>
    dvd_pow_self 2 (by have := hunit hs; omega)
  rw [(h.between hunit).RInt_eq (by positivity) heven m s, rint]
  split <;> rfl

/-- It is inexact where the rounded magnitude differs from the exact one. -/
theorem Denotes.rint_snd (h : Denotes mant exp sticky a) (hunit : sticky = true → exp < unit) (m : RoundingMode)
    (s : Bool) : (rint m s mant exp sticky unit).2 = decide ((RInt m s (a / 2 ^ unit) : ℝ) * 2 ^ unit ≠ a) := by
  have hpos : (0 : ℝ) < 2 ^ unit := by positivity
  have hden : 0 < 2 ^ (unit - exp).toNat := by positivity
  have hb := h.between hunit
  have hexact : (RInt m s (a / 2 ^ unit) : ℝ) * 2 ^ unit = a ↔
      mant * 2 ^ (exp - unit).toNat % 2 ^ (unit - exp).toNat = 0 ∧ sticky = false := by
    rw [← eq_div_iff hpos.ne', RInt_eq_self_iff, hb.floor_eq hden, Int.cast_natCast, (hb.frac hden).eq_zero_iff hden]
  by_cases hz : mant * 2 ^ (exp - unit).toNat % 2 ^ (unit - exp).toNat = 0 ∧ sticky = false
  · rw [rint, if_pos hz, decide_eq_false (not_not.2 (hexact.2 hz))]
  · rw [rint, if_neg hz, decide_eq_true (mt hexact.1 hz)]

/-! ### The exponent and the rounded significand (R308 step 1) -/

theorem Denotes.pos (h : Denotes mant exp sticky a) (hmant : mant ≠ 0) : 0 < a := by
  have hm : (0 : ℝ) < mant := Nat.cast_pos.2 (Nat.pos_of_ne_zero hmant)
  cases sticky with
  | false =>
    rw [show a = mant * 2 ^ exp from h]
    positivity
  | true => exact lt_trans (by positivity) h.1

/-- The exponent the kernel computes from the significand's bits is that of the magnitude. -/
theorem Denotes.log_eq (h : Denotes mant exp sticky a) (hmant : mant ≠ 0) : Int.log 2 a = exp + mant.log2 := by
  have hpos : (0 : ℝ) < 2 ^ exp := by positivity
  have hlow : (2 : ℝ) ^ mant.log2 ≤ mant := by exact_mod_cast Nat.log2_self_le hmant
  have hhigh : (mant : ℝ) + 1 ≤ 2 ^ (mant.log2 + 1) := by exact_mod_cast Nat.lt_log2_self
  have ha : (mant : ℝ) * 2 ^ exp ≤ a ∧ a < (mant + 1) * 2 ^ exp := by
    cases sticky with
    | false => exact ⟨le_of_eq (Eq.symm h), by rw [show a = mant * 2 ^ exp from h]; nlinarith⟩
    | true => exact ⟨h.1.le, h.2⟩
  apply le_antisymm
  · rw [← Int.lt_add_one_iff, ← Int.lt_zpow_iff_log_lt (by decide) (h.pos hmant)]
    calc a < (mant + 1) * 2 ^ exp := ha.2
      _ ≤ 2 ^ (mant.log2 + 1) * 2 ^ exp := mul_le_mul_of_nonneg_right hhigh hpos.le
      _ = ((2 : Nat) : ℝ) ^ (exp + mant.log2 + 1) := by
        push_cast
        rw [add_assoc, zpow_add₀ two_ne_zero, mul_comm]
        norm_cast
  · rw [← Int.zpow_le_iff_le_log (by decide) (h.pos hmant)]
    calc ((2 : Nat) : ℝ) ^ (exp + mant.log2) = 2 ^ mant.log2 * 2 ^ exp := by
          push_cast
          rw [zpow_add₀ two_ne_zero, mul_comm, zpow_natCast]
      _ ≤ mant * 2 ^ exp := mul_le_mul_of_nonneg_right hlow hpos.le
      _ ≤ a := ha.1

end

theorem RInt_mono_bounds (m : RoundingMode) (s : Bool) {q : ℝ} {lo hi : Int} (hlo : (lo : ℝ) ≤ q) (hhi : q < hi) :
    lo ≤ RInt m s q ∧ RInt m s q ≤ hi := by
  have h1 : lo ≤ ⌊q⌋ := Int.le_floor.2 hlo
  have h2 : ⌊q⌋ < hi := Int.floor_lt.2 hhi
  rw [RInt]
  split
  · omega
  · split <;> omega

end Sys2Proof.Machine.Kernel
end

section
/-!
PROOFS. Rounding an exact value (46_fp_kernel.md R308): the kernel's three steps are those of the rule.
-/

namespace Sys2Proof.Machine.Kernel

/-- The exponent of a rounded significand that lies between the two powers of its precision (R308 step 1). -/
theorem zpow_le_rounded_iff {u p : Nat} {e k : Int} (hlow : 2 ^ p ≤ u) (hhigh : u ≤ 2 ^ (p + 1)) :
    (2 : ℝ) ^ k ≤ u * 2 ^ (e - p) ↔ k ≤ if u = 2 ^ (p + 1) then e + 1 else e := by
  have hp : ∀ n : Nat, ((2 ^ n : Nat) : ℝ) * 2 ^ (e - p) = 2 ^ (e - p + n) := fun n => by
    rw [zpow_add₀ two_ne_zero, zpow_natCast, mul_comm]
    push_cast
    rfl
  have hpos : (0 : ℝ) < 2 ^ (e - p) := by positivity
  have hle : (2 : ℝ) ^ e ≤ u * 2 ^ (e - p) := by
    rw [show e = e - p + p by ring, ← hp p, sub_add_cancel]
    exact mul_le_mul_of_nonneg_right (Nat.cast_le.2 hlow) hpos.le
  split_ifs with hu
  · rw [hu, hp, zpow_le_zpow_iff_right₀ one_lt_two]
    push_cast
    rw [← add_assoc, sub_add_cancel]
  · have hlt : (u : ℝ) * 2 ^ (e - p) < 2 ^ (e + 1) := by
      rw [show e + 1 = e - p + ((p + 1 : Nat) : Int) by push_cast; ring, ← hp]
      exact mul_lt_mul_of_pos_right (Nat.cast_lt.2 (hhigh.lt_of_ne hu)) hpos
    constructor
    · intro hk
      exact Int.lt_add_one_iff.1 ((zpow_lt_zpow_iff_right₀ one_lt_two).1 (hk.trans_lt hlt))
    · intro hk
      exact (zpow_le_zpow_right₀ one_le_two hk).trans hle

/-- The exponent and fraction fields of a normal result, computed in either kind of number. -/
theorem toNat_fields {e : Int} {n p : Nat} (he : 0 ≤ e) (hn : p ≤ n) :
    (e * p + (n - p)).toNat = e.toNat * p + (n - p) := by
  lift e to Nat using he
  rw [← Nat.cast_sub hn]
  exact Int.toNat_natCast _

theorem overflowsToInfinity_iff (m : RoundingMode) (s : Bool) :
    overflowsToInfinity m s = true ↔ m = .rne ∨ m = .rmm ∨ (m = .rdn ∧ s = true) ∨ (m = .rup ∧ s = false) := by
  cases m <;> cases s <;> decide

section
variable {mant : Nat} {exp : Int} {sticky : Bool} {a : ℝ}

/-- The significand rounded to the precision lies between the two powers that bound it (R308 step 1). -/
theorem Denotes.rounded_bounds {fmt : Fmt} (h : Denotes mant exp sticky a) (hmant : mant ≠ 0) (m : RoundingMode)
    (s : Bool) : 2 ^ fmt.fracBits ≤ RInt m s (a / 2 ^ (exp + mant.log2 - fmt.fracBits)) ∧
      RInt m s (a / 2 ^ (exp + mant.log2 - fmt.fracBits)) ≤ 2 ^ (fmt.fracBits + 1) := by
  have ha := h.pos hmant
  have hlog := h.log_eq hmant
  have hlow : ((2 : Nat) : ℝ) ^ (exp + mant.log2) ≤ a := (Int.zpow_le_iff_le_log (by decide) ha).2 hlog.ge
  have hhigh : a < ((2 : Nat) : ℝ) ^ (exp + mant.log2 + 1) :=
    (Int.lt_zpow_iff_log_lt (by decide) ha).2 (Int.lt_add_one_iff.2 hlog.le)
  generalize exp + mant.log2 = e at *
  have hpos : (0 : ℝ) < 2 ^ (e - fmt.fracBits) := by positivity
  apply RInt_mono_bounds
  · rw [le_div_iff₀ hpos]
    refine le_trans (le_of_eq ?_) hlow
    push_cast
    rw [← zpow_natCast, ← zpow_add₀ two_ne_zero, add_sub_cancel]
  · rw [div_lt_iff₀ hpos]
    refine hhigh.trans_eq ?_
    push_cast
    rw [← zpow_natCast, ← zpow_add₀ two_ne_zero]
    congr 1
    push_cast
    ring

theorem Denotes.lt_zpow_iff (h : Denotes mant exp sticky a) (hmant : mant ≠ 0) (k : Int) :
    a < 2 ^ k ↔ exp + mant.log2 < k := by
  rw [← h.log_eq hmant, ← Int.lt_zpow_iff_log_lt (by decide) (h.pos hmant)]
  rfl

/-- With as many places as the precision before the sticky part, the units of both grids are above the significand's. -/
theorem exp_lt_unit {fmt : Fmt} (hprec : sticky = true → fmt.prec ≤ mant.log2) {e : Int} (he : exp + mant.log2 ≤ e)
    (hs : sticky = true) : exp < e - fmt.fracBits := by
  have hplaces := hprec hs
  rw [Fmt.prec] at hplaces
  omega

theorem unit_eq (fmt : Fmt) (e : Int) : e - fmt.prec + 1 = e - fmt.fracBits := by
  rw [Fmt.prec]
  push_cast
  ring

theorem decide_signed_neg (ha : 0 < a) (s : Bool) : decide ((if s then -1 else 1) * a < 0) = s := by
  cases s <;> simp [ha, ha.le]

theorem abs_signed (ha : 0 < a) (s : Bool) : |(if s then -1 else 1) * a| = a := by
  cases s <;> simp [abs_of_pos ha]

/-- The kernel's rounding is `RoundPack` of the exact number, sign and magnitude: the rounded significand `u` decides the
overflow and the carry, and tininess, as the rounded magnitude does in the rule. -/
theorem Denotes.roundPack_eq {fmt : Fmt} (h : Denotes mant exp sticky a) (hmant : mant ≠ 0)
    (hprec : sticky = true → fmt.prec ≤ mant.log2) (m : RoundingMode) (s : Bool) :
    roundPack fmt m s mant exp sticky = RoundPack fmt m ((if s then -1 else 1) * a) := by
  have ha := h.pos hmant
  have hu := h.rint_fst (exp_lt_unit hprec le_rfl) m s
  have hux := h.rint_snd (exp_lt_unit hprec le_rfl) m s
  obtain ⟨hlow, hhigh⟩ := h.rounded_bounds (fmt := fmt) hmant m s
  rw [roundPack, RoundPack]
  simp only [decide_signed_neg ha, abs_signed ha, h.log_eq hmant, unit_eq, hux, h.lt_zpow_iff hmant]
  rw [← hu] at hlow hhigh ⊢
  have hunit := fun e => exp_lt_unit (e := e) (exp := exp) hprec
  generalize (rint m s mant exp sticky (exp + mant.log2 - fmt.fracBits)).1 = u at *
  generalize exp + mant.log2 = e at *
  have hlow' : 2 ^ fmt.fracBits ≤ u := by exact_mod_cast hlow
  have hhigh' : u ≤ 2 ^ (fmt.fracBits + 1) := by exact_mod_cast hhigh
  have hru := fun k => zpow_le_rounded_iff (e := e) (k := k) hlow' hhigh'
  have hrlt : ∀ k : Int, (u : ℝ) * 2 ^ (e - fmt.fracBits) < 2 ^ k ↔
      (if u = 2 ^ (fmt.fracBits + 1) then e + 1 else e) < k := fun k => by rw [← not_le, hru, not_le]
  have hcarry : (u : Int) = 2 ^ (fmt.fracBits + 1) ↔ u = 2 ^ (fmt.fracBits + 1) := by exact_mod_cast Iff.rfl
  simp only [Fmt.prec, decide_eq_true_eq, hcarry, Int.cast_natCast, beq_iff_eq, hru, hrlt, Int.add_one_le_iff,
    ← overflowsToInfinity_iff, Nat.add_sub_cancel]
  by_cases hov : fmt.emax < if u = 2 ^ (fmt.fracBits + 1) then e + 1 else e
  · rw [if_pos hov, if_pos hov]
  rw [if_neg hov, if_neg hov]
  by_cases htiny : e < fmt.emin
  · have hd := h.rint_fst (hunit _ htiny.le) m s
    rw [if_pos htiny, if_pos htiny, h.rint_snd (hunit _ htiny.le) m s, ← hd, Int.toNat_natCast]
  · rw [if_neg htiny, if_neg htiny]
    congr 2
    have hexp : 0 ≤ (if u = 2 ^ (fmt.fracBits + 1) then e + 1 else e) + (fmt.bias : Int) := by
      rw [Fmt.emin] at htiny
      split <;> omega
    have hn : 2 ^ fmt.fracBits ≤ if u = 2 ^ (fmt.fracBits + 1) then 2 ^ fmt.fracBits else u := by
      split
      · exact le_rfl
      · exact hlow'
    rw [← toNat_fields hexp hn]
    push_cast
    rfl

end

/-- Settles O50: an exact value has no sticky part. -/
theorem roundPackRule : Obligations.RoundPackRule := by
  intro fmt m s mant exp hmant
  rw [Denotes.roundPack_eq (a := mant * 2 ^ exp) (sticky := false) rfl hmant nofun, mul_assoc]

end Sys2Proof.Machine.Kernel
end

section
/-!
SUPPORT. The classes of patterns (46_fp_kernel.md R302), what the exact values the kernel computes with are as real
numbers, and the fields of negated and of packed patterns.
-/

namespace Sys2Proof.Machine.Kernel

section
variable {fmt : Fmt} {x y : BitVec fmt.width}

/-! ### Classes -/

theorem isFinite_iff : isFinite x = true ↔ isNaN x = false ∧ isInf x = false := by
  cases hf : fracField x == 0 <;> simp [isFinite, isNaN, isInf, bne, hf]

theorem isNaN_of_isInf (h : isInf x = true) : isNaN x = false := by
  obtain ⟨-, hf⟩ := Bool.and_eq_true_iff.1 h
  rw [isNaN, bne, hf, Bool.not_true, Bool.and_false]

theorem infMagnitude_lt_of_isNaN (h : isNaN x = true) : infMagnitude fmt < magnitude x := by
  obtain ⟨he, hf⟩ : expField x = fmt.expMax ∧ fracField x ≠ 0 := by simpa [isNaN] using h
  rw [magnitude_eq, he, infMagnitude]
  omega

theorem magnitude_lt_of_isFinite (h : isFinite x = true) : magnitude x < infMagnitude fmt :=
  magnitude_lt_of_finite (isFinite_iff.1 h).1 (isFinite_iff.1 h).2

theorem isNaN_iff_magnitude : isNaN x = true ↔ infMagnitude fmt < magnitude x :=
  ⟨infMagnitude_lt_of_isNaN, fun h => by
    by_contra hn
    exact absurd (magnitude_le (eq_false_of_ne_true hn)) (not_le.2 h)⟩

theorem isFinite_iff_magnitude : isFinite x = true ↔ magnitude x < infMagnitude fmt := by
  refine ⟨magnitude_lt_of_isFinite, fun h => isFinite_iff.2 ⟨?_, ?_⟩⟩
  · exact eq_false_of_ne_true fun hn => absurd (isNaN_iff_magnitude.1 hn) h.not_gt
  · exact eq_false_of_ne_true fun hi => h.ne (magnitude_of_isInf hi)

theorem isInf_iff_magnitude : isInf x = true ↔ magnitude x = infMagnitude fmt := by
  refine ⟨magnitude_of_isInf, fun h => ?_⟩
  have hn : isNaN x = false := eq_false_of_ne_true fun hn => (isNaN_iff_magnitude.1 hn).ne' h
  by_contra hi
  exact (magnitude_lt_of_finite hn (eq_false_of_ne_true hi)).ne h

theorem isZero_iff_magnitude : isZero x = true ↔ magnitude x = 0 := by
  rw [magnitude_eq, isZero]
  simp

theorem isFinite_of_isZero (h : isZero x = true) : isFinite x = true :=
  isFinite_iff_magnitude.2 ((isZero_iff_magnitude.1 h).trans_lt (infMagnitude_pos fmt))

/-! ### Values -/

theorem mant_eq_zero_iff : mant x = 0 ↔ isZero x = true := by
  by_cases he : expField x = 0 <;> simp [mant, isZero, he]

theorem mant_lt (x : BitVec fmt.width) : mant x < 2 ^ fmt.prec := by
  have hf := fracField_lt x
  rw [Fmt.prec, pow_succ, mant]
  split <;> omega

theorem realValue_eq (x : BitVec fmt.width) :
    ((value x : ℚ) : ℝ) = (signedMant (sign x) (mant x) : Int) * 2 ^ exponent x := by
  rw [value]
  cases sign x <;> simp [signedMant]

theorem realValue_eq_zero_iff : ((value x : ℚ) : ℝ) = 0 ↔ isZero x = true := by
  have h2 : (2 : ℝ) ^ exponent x ≠ 0 := by positivity
  rw [realValue_eq, mul_eq_zero_iff_right h2, Int.cast_eq_zero, ← Int.natAbs_eq_zero, natAbs_signedMant,
    mant_eq_zero_iff]

end

/-! ### Negation -/

section
variable {fmt : Fmt} (x : BitVec fmt.width)

theorem width_pos : 0 < fmt.width := by cases fmt <;> decide

@[simp] theorem sign_signMask : sign (signMask fmt) = true := by cases fmt <;> decide

@[simp] theorem magnitude_signMask : magnitude (signMask fmt) = 0 := by cases fmt <;> decide

/-- The magnitude is the pattern without its sign bit. -/
theorem magnitude_eq_toNat : magnitude x = (x.setWidth (fmt.width - 1)).toNat := (BitVec.toNat_setWidth _ _).symm

@[simp] theorem sign_negate : sign (negate x) = !sign x := by
  have h := sign_signMask (fmt := fmt)
  rw [sign] at h
  rw [sign, negate, BitVec.getLsbD_xor, h, Bool.xor_true, sign]

@[simp] theorem magnitude_negate : magnitude (negate x) = magnitude x := by
  have h := magnitude_signMask (fmt := fmt)
  rw [magnitude_eq_toNat] at h
  rw [magnitude_eq_toNat, negate, BitVec.setWidth_xor, BitVec.toNat_xor, h, Nat.xor_zero, ← magnitude_eq_toNat]

@[simp] theorem expField_negate : expField (negate x) = expField x := by
  rw [← magnitude_div, magnitude_negate, magnitude_div]

@[simp] theorem fracField_negate : fracField (negate x) = fracField x := by
  rw [← magnitude_mod, magnitude_negate, magnitude_mod]

@[simp] theorem isNaN_negate : isNaN (negate x) = isNaN x := by simp [isNaN]

@[simp] theorem isInf_negate : isInf (negate x) = isInf x := by simp [isInf]

@[simp] theorem isZero_negate : isZero (negate x) = isZero x := by simp [isZero]

@[simp] theorem isFinite_negate : isFinite (negate x) = isFinite x := by simp [isFinite]

@[simp] theorem mant_negate : mant (negate x) = mant x := by simp [mant]

@[simp] theorem exponent_negate : exponent (negate x) = exponent x := by simp [exponent]

@[simp] theorem isSignaling_negate : isSignaling (negate x) = isSignaling x := by
  cases hn : isNaN x with
  | false => rw [isSignaling, isSignaling, isNaN_negate, hn, Bool.false_and, Bool.false_and]
  | true => rw [isSignaling_of_isNaN hn, isSignaling_of_isNaN ((isNaN_negate x).trans hn), fracField_negate]

@[simp] theorem value_negate : value (negate x) = -value x := by
  rw [value, value, sign_negate, mant_negate, exponent_negate]
  cases sign x <;> simp

end

/-! ### Packing -/

section
variable {fmt : Fmt} {mag : Nat} (s : Bool)

theorem sign_pack (h : mag < 2 ^ (fmt.width - 1)) : sign (pack fmt s mag) = s := by
  have hbit : (BitVec.ofNat fmt.width mag).getLsbD (fmt.width - 1) = false := by
    rw [BitVec.getLsbD_ofNat, Nat.testBit_lt_two_pow h, Bool.and_false]
  have hmask := sign_signMask (fmt := fmt)
  rw [sign] at hmask
  rw [sign, pack, BitVec.getLsbD_or, hbit, Bool.false_or]
  cases s
  · exact BitVec.getLsbD_zero
  · exact hmask

theorem magnitude_pack (h : mag < 2 ^ (fmt.width - 1)) : magnitude (pack fmt s mag) = mag := by
  have hw : mag < 2 ^ fmt.width := h.trans_le (Nat.pow_le_pow_right (by decide) (Nat.sub_le _ _))
  have hmask : (if s then signMask fmt else 0#_).setWidth (fmt.width - 1) = 0#_ := by
    cases s
    · exact BitVec.setWidth_zero _ _
    · exact BitVec.eq_of_toNat_eq ((magnitude_eq_toNat _).symm.trans magnitude_signMask)
  rw [magnitude_eq_toNat, pack, BitVec.setWidth_or, hmask, BitVec.or_zero, BitVec.toNat_setWidth, BitVec.toNat_ofNat,
    Nat.mod_eq_of_lt hw, Nat.mod_eq_of_lt h]

theorem infMagnitude_lt (fmt : Fmt) : infMagnitude fmt < 2 ^ (fmt.width - 1) := by cases fmt <;> decide

theorem eq_pack (x : BitVec fmt.width) : x = pack fmt (sign x) (magnitude x) := by
  have h : magnitude x < 2 ^ (fmt.width - 1) := Nat.mod_lt _ (by positivity)
  exact eq_of_sign_of_magnitude (sign_pack _ h).symm (magnitude_pack _ h).symm

end

end Sys2Proof.Machine.Kernel
end

section
/-!
PROOFS. The arithmetic operations on finite operands (46_fp_kernel.md R311 to R316): each rounds its exact real result.
-/

namespace Sys2Proof.Machine.Kernel

/-! ### Sums and products -/

theorem signedMant_cast (s : Bool) (n : Nat) : ((signedMant s n : Int) : ℝ) = (if s then -1 else 1) * n := by
  cases s <;> simp [signedMant]

/-- `roundInt` is the rounding of its exact number. -/
theorem roundInt_eq {fmt : Fmt} {m : RoundingMode} {r exp : Int} (hr : r ≠ 0) :
    roundInt fmt m r exp = RoundPack fmt m ((r : ℝ) * 2 ^ exp) := by
  have hsign : signedMant (decide (r < 0)) r.natAbs = r := by
    by_cases h : r < 0
    · rw [decide_eq_true h, signedMant, if_pos rfl]
      omega
    · rw [decide_eq_false h, signedMant, if_neg Bool.false_ne_true]
      omega
  rw [roundInt, Denotes.roundPack_eq (a := r.natAbs * 2 ^ exp) (sticky := false) rfl (Int.natAbs_ne_zero.2 hr) nofun,
    ← mul_assoc, ← signedMant_cast, hsign]

theorem alignedSum_cast (a ea b eb : Int) :
    (alignedSum a ea b eb : ℝ) * 2 ^ min ea eb = a * 2 ^ ea + b * 2 ^ eb := by
  have h : ∀ e, min ea eb ≤ e → (2 : ℝ) ^ (e - min ea eb).toNat * 2 ^ min ea eb = 2 ^ e := fun e he => by
    rw [← zpow_natCast, ← zpow_add₀ two_ne_zero]
    congr 1
    omega
  rw [alignedSum]
  push_cast
  rw [add_mul, mul_assoc, mul_assoc, h ea (min_le_left _ _), h eb (min_le_right _ _)]

/-- The exact product with its sign (R316). -/
theorem product_value {fmt : Fmt} (x y : BitVec fmt.width) :
    ((signedMant (sign x != sign y) (mant x * mant y) : Int) : ℝ) * 2 ^ (exponent x + exponent y) =
      ((value x : ℚ) : ℝ) * (value y : ℚ) := by
  rw [realValue_eq, realValue_eq, signedMant_cast, signedMant_cast, signedMant_cast, zpow_add₀ two_ne_zero]
  push_cast
  cases sign x <;> cases sign y <;> simp <;> ring

section
variable {fmt : Fmt} {m : RoundingMode} {x y z : BitVec fmt.width}

/-- The sum of finite operands before its zero is told from the rest (R311). -/
theorem add_of_finite (hx : isFinite x = true) (hy : isFinite y = true) :
    add fmt m x y =
      if ((value x : ℚ) : ℝ) + (value y : ℚ) = 0 then
        (zero fmt (if isZero x && isZero y && sign x == sign y then sign x else cancelSign m), noFlags)
      else RoundPack fmt m (((value x : ℚ) : ℝ) + (value y : ℚ)) := by
  obtain ⟨hxn, hxi⟩ := isFinite_iff.1 hx
  obtain ⟨hyn, hyi⟩ := isFinite_iff.1 hy
  have hsum := alignedSum_cast (signedMant (sign x) (mant x)) (exponent x) (signedMant (sign y) (mant y)) (exponent y)
  rw [← realValue_eq, ← realValue_eq] at hsum
  have h2 : (2 : ℝ) ^ min (exponent x) (exponent y) ≠ 0 := by positivity
  rw [← hsum, add]
  simp only [hxn, hxi, hyn, hyi, Bool.false_and, Bool.or_false, Bool.false_eq_true, if_false]
  simp only [mul_eq_zero_iff_right h2, Int.cast_eq_zero]
  split_ifs with hr hz
  · rfl
  · rfl
  · exact roundInt_eq hr

theorem mul_value (hx : isZero x = false) (hy : isZero y = false) (hxf : isFinite x = true) (hyf : isFinite y = true) :
    mul fmt m x y = RoundPack fmt m (((value x : ℚ) : ℝ) * (value y : ℚ)) := by
  obtain ⟨hxn, hxi⟩ := isFinite_iff.1 hxf
  obtain ⟨hyn, hyi⟩ := isFinite_iff.1 hyf
  have hm : mant x * mant y ≠ 0 := Nat.mul_ne_zero (mt mant_eq_zero_iff.1 (ne_true_of_eq_false hx))
    (mt mant_eq_zero_iff.1 (ne_true_of_eq_false hy))
  rw [mul]
  simp only [hx, hy, hxn, hxi, hyn, hyi, Bool.and_false, Bool.or_false, Bool.false_eq_true, if_false]
  rw [Denotes.roundPack_eq (sticky := false) rfl hm nofun, ← product_value, signedMant_cast, mul_assoc]

/-! ### Quotients -/

/-- A quotient of significands taken to some places, with a sticky bit for its remainder (R314). -/
theorem denotes_div {a b : Nat} (hb : 0 < b) (places : Nat) (e : Int) :
    Denotes (a * 2 ^ places / b) (e - places) (a * 2 ^ places % b != 0) ((a : ℝ) / b * 2 ^ e) := by
  have hb' : (0 : ℝ) < b := Nat.cast_pos.2 hb
  have h2 : (2 : ℝ) ^ e = 2 ^ places * 2 ^ (e - places) := by
    rw [← zpow_natCast, ← zpow_add₀ two_ne_zero, add_sub_cancel]
  have hpos : (0 : ℝ) < 2 ^ (e - places) := by positivity
  have hq : (a : ℝ) / b * 2 ^ e = ((a * 2 ^ places : Nat) : ℝ) / b * 2 ^ (e - places) := by
    rw [h2]
    push_cast
    ring
  have hdiv : ((a * 2 ^ places : Nat) : ℝ) = b * (a * 2 ^ places / b : Nat) + (a * 2 ^ places % b : Nat) := by
    exact_mod_cast (Nat.div_add_mod _ _).symm
  rw [hq]
  generalize a * 2 ^ places = n at *
  by_cases hr : n % b = 0
  · rw [hr, bne_self_eq_false]
    show _ = _
    rw [hdiv, hr, Nat.cast_zero, add_zero, mul_div_cancel_left₀ _ hb'.ne']
  · rw [bne_iff_ne.2 hr]
    have hr0 : (0 : ℝ) < (n % b : Nat) := Nat.cast_pos.2 (Nat.pos_of_ne_zero hr)
    have hrb : ((n % b : Nat) : ℝ) < b := Nat.cast_lt.2 (Nat.mod_lt _ hb)
    constructor
    · refine mul_lt_mul_of_pos_right ?_ hpos
      rw [lt_div_iff₀ hb', hdiv]
      nlinarith
    · refine mul_lt_mul_of_pos_right ?_ hpos
      rw [div_lt_iff₀ hb', hdiv]
      nlinarith

theorem div_value (hx : isZero x = false) (hy : isZero y = false) (hxf : isFinite x = true) (hyf : isFinite y = true) :
    div fmt m x y = RoundPack fmt m (((value x : ℚ) : ℝ) / (value y : ℚ)) := by
  obtain ⟨hxn, hxi⟩ := isFinite_iff.1 hxf
  obtain ⟨hyn, hyi⟩ := isFinite_iff.1 hyf
  have hmx : 0 < mant x := Nat.pos_of_ne_zero (mt mant_eq_zero_iff.1 (ne_true_of_eq_false hx))
  have hmy : 0 < mant y := Nat.pos_of_ne_zero (mt mant_eq_zero_iff.1 (ne_true_of_eq_false hy))
  have hbig : 2 ^ fmt.prec ≤ mant x * 2 ^ (2 * fmt.prec + 3) / mant y := by
    rw [Nat.le_div_iff_mul_le hmy]
    calc 2 ^ fmt.prec * mant y ≤ 2 ^ fmt.prec * 2 ^ fmt.prec := Nat.mul_le_mul_left _ (mant_lt y).le
      _ = 2 ^ (2 * fmt.prec) := by rw [← pow_add, two_mul]
      _ ≤ 2 ^ (2 * fmt.prec + 3) := Nat.pow_le_pow_right (by decide) (Nat.le_add_right _ _)
      _ ≤ mant x * 2 ^ (2 * fmt.prec + 3) := Nat.le_mul_of_pos_left _ hmx
  have hne : mant x * 2 ^ (2 * fmt.prec + 3) / mant y ≠ 0 := (lt_of_lt_of_le (by positivity) hbig).ne'
  have hval : ((value x : ℚ) : ℝ) / (value y : ℚ) =
      (if sign x != sign y then -1 else 1) * ((mant x : ℝ) / mant y * 2 ^ (exponent x - exponent y)) := by
    rw [realValue_eq, realValue_eq, signedMant_cast, signedMant_cast, zpow_sub₀ two_ne_zero]
    cases sign x <;> cases sign y <;> simp <;> ring
  have hden := denotes_div (a := mant x) hmy (2 * fmt.prec + 3) (exponent x - exponent y)
  rw [div]
  simp only [hx, hy, hxn, hxi, hyn, hyi, Bool.and_false, Bool.or_false, Bool.false_eq_true, if_false]
  rw [hden.roundPack_eq hne (fun _ => (Nat.le_log2 hne).2 hbig), hval]

end

theorem value_ne_zero_iff {fmt : Fmt} {x : BitVec fmt.width} : ((value x : ℚ) : ℝ) ≠ 0 ↔ isZero x = false := by
  rw [Ne, realValue_eq_zero_iff, Bool.not_eq_true]

/-- Settles O51: sums by `add_of_finite`, a difference being the sum with the negated operand. -/
theorem arithmeticIsCorrectlyRounded : Obligations.ArithmeticIsCorrectlyRounded := by
  intro fmt m x y hx hy vx vy
  have hneg : ((value (negate y) : ℚ) : ℝ) = -vy := by rw [value_negate, Rat.cast_neg]
  refine ⟨fun h => ?_, fun h => ?_, fun h => ?_, fun hvx hvy => ?_⟩
  · rw [add_of_finite hx hy, if_neg h]
  · rw [sub, add_of_finite hx ((isFinite_negate y).trans hy), hneg, ← sub_eq_add_neg, if_neg h]
  · exact mul_value (value_ne_zero_iff.1 (left_ne_zero_of_mul h)) (value_ne_zero_iff.1 (right_ne_zero_of_mul h)) hx hy
  · exact div_value (value_ne_zero_iff.1 hvx) (value_ne_zero_iff.1 hvy) hx hy

end Sys2Proof.Machine.Kernel
end

section
/-!
PROOFS. The fused multiply-add (46_fp_kernel.md R316) and the square root (R315).
-/

namespace Sys2Proof.Machine.Kernel

/-! ### Fused multiply-add -/

section
variable {fmt : Fmt} {m : RoundingMode} {x y z : BitVec fmt.width}

theorem fma_of_finite (hx : isFinite x = true) (hy : isFinite y = true) (hz : isFinite z = true) :
    fma fmt m x y z =
      if ((value x : ℚ) : ℝ) * (value y : ℚ) + (value z : ℚ) = 0 then
        (zero fmt (if (isZero x || isZero y) && isZero z && (sign x != sign y) == sign z then sign x != sign y
          else cancelSign m), noFlags)
      else RoundPack fmt m (((value x : ℚ) : ℝ) * (value y : ℚ) + (value z : ℚ)) := by
  obtain ⟨hxn, hxi⟩ := isFinite_iff.1 hx
  obtain ⟨hyn, hyi⟩ := isFinite_iff.1 hy
  obtain ⟨hzn, hzi⟩ := isFinite_iff.1 hz
  have hsum := alignedSum_cast (signedMant (sign x != sign y) (mant x * mant y)) (exponent x + exponent y)
    (signedMant (sign z) (mant z)) (exponent z)
  rw [product_value, ← realValue_eq] at hsum
  have h2 : (2 : ℝ) ^ min (exponent x + exponent y) (exponent z) ≠ 0 := by positivity
  rw [← hsum, fma]
  simp only [hxn, hxi, hyn, hyi, hzn, hzi, Bool.false_and, Bool.and_false, Bool.or_false, Bool.false_eq_true, if_false]
  simp only [mul_eq_zero_iff_right h2, Int.cast_eq_zero]
  split_ifs with hr hs
  · rfl
  · rfl
  · exact roundInt_eq hr

end

/-- Settles O53: the cases of R316 in its order, the last by `fma_of_finite`. -/
theorem fusedMultiplyAddRule : Obligations.FusedMultiplyAddRule := by
  intro fmt m x y z sp inv infTimesZero anyNaN infProduct
  have hfirst : infTimesZero ↔ (isInf x && isZero y || isZero x && isInf y) = true := by simp [infTimesZero]
  have hnan : anyNaN ↔ (isNaN x || isNaN y || isNaN z) = true := by simp [anyNaN, or_assoc]
  have hinf : infProduct ↔ (isInf x || isInf y) = true := by simp [infProduct]
  refine ⟨fun h => if_pos (hfirst.1 h), fun h hn => ?_, fun h hn hi => ?_, fun hn hi hz => ?_, fun hx hy hz => ?_⟩
  · rw [fma, if_neg (mt hfirst.2 h), if_pos (hnan.1 hn)]
    rfl
  · rw [fma, if_neg (mt hfirst.2 h), if_neg (mt hnan.2 hn), if_pos (hinf.1 hi)]
    exact if_congr (by simp [sp]) rfl rfl
  · have h : ¬infTimesZero := fun h => hi (h.imp And.left And.right)
    rw [fma, if_neg (mt hfirst.2 h), if_neg (mt hnan.2 hn), if_neg (mt hinf.2 hi), if_pos hz]
  · refine ⟨fun hr => ?_, fun hr => ?_⟩
    · rw [fma_of_finite hx hy hz, if_neg hr]
    · rw [fma_of_finite hx hy hz, if_pos hr]
      exact congrArg (fun s => (zero fmt s, noFlags)) (if_congr (by simp [sp, and_assoc]) rfl rfl)

/-! ### Square root -/

/-- The bits found so far and those still to come (R315). -/
theorem isqrtFrom_spec (b n acc : Nat) (hlow : acc * acc ≤ n) (hhigh : n < (acc + 2 ^ b) * (acc + 2 ^ b)) :
    isqrtFrom b n acc * isqrtFrom b n acc ≤ n ∧ n < (isqrtFrom b n acc + 1) * (isqrtFrom b n acc + 1) := by
  induction b generalizing acc with
  | zero => exact ⟨hlow, hhigh⟩
  | succ b ih =>
    rw [isqrtFrom]
    split_ifs with h
    · exact ih _ h (by rwa [add_assoc, ← two_mul, ← pow_succ'])
    · exact ih _ hlow (not_le.1 h)

theorem isqrt_spec (n : Nat) : isqrt n * isqrt n ≤ n ∧ n < (isqrt n + 1) * (isqrt n + 1) := by
  refine isqrtFrom_spec _ n 0 (Nat.zero_le n) ?_
  rw [Nat.zero_add, ← pow_add]
  exact Nat.lt_log2_self.trans_le (Nat.pow_le_pow_right (by decide) (by omega))

theorem le_isqrt {k n : Nat} (h : k * k ≤ n) : k ≤ isqrt n := by
  by_contra hlt
  have hle : isqrt n + 1 ≤ k := not_le.1 hlt
  exact ((isqrt_spec n).2.trans_le (Nat.mul_le_mul hle hle)).not_ge h

/-- The root of a scaled radicand, with a sticky bit where it is no square (R315). -/
theorem denotes_sqrt (n places : Nat) (half : Int) :
    Denotes (isqrt (n * 2 ^ (2 * places))) (half - places)
      (isqrt (n * 2 ^ (2 * places)) * isqrt (n * 2 ^ (2 * places)) != n * 2 ^ (2 * places))
      (Real.sqrt (n * 2 ^ (2 * half))) := by
  have hroot : Real.sqrt (n * 2 ^ (2 * half)) = Real.sqrt ((n * 2 ^ (2 * places) : Nat)) * 2 ^ (half - places) := by
    have hsq : (n : ℝ) * 2 ^ (2 * half) = ((n * 2 ^ (2 * places) : Nat) : ℝ) * (2 ^ (half - places)) ^ 2 := by
      push_cast
      rw [mul_assoc, ← zpow_natCast, ← zpow_natCast, ← zpow_mul, ← zpow_add₀ two_ne_zero]
      congr 2
      push_cast
      ring
    rw [hsq, Real.sqrt_mul (Nat.cast_nonneg _), Real.sqrt_sq (by positivity)]
  have hpos : (0 : ℝ) < 2 ^ (half - places) := by positivity
  obtain ⟨hlow, hhigh⟩ := isqrt_spec (n * 2 ^ (2 * places))
  rw [hroot]
  generalize n * 2 ^ (2 * places) = k at *
  generalize isqrt k = r at *
  by_cases hr : r * r = k
  · rw [hr, bne_self_eq_false]
    show _ = _
    rw [← hr, Nat.cast_mul, Real.sqrt_mul_self (Nat.cast_nonneg r)]
  · rw [bne_iff_ne.2 hr]
    have hlt : r * r < k := hlow.lt_of_ne hr
    constructor
    · refine mul_lt_mul_of_pos_right ?_ hpos
      rw [Real.lt_sqrt (Nat.cast_nonneg r), pow_two]
      exact_mod_cast hlt
    · refine mul_lt_mul_of_pos_right ?_ hpos
      rw [Real.sqrt_lt' (by positivity), pow_two]
      exact_mod_cast hhigh

/-- A radicand with an even exponent (R315). -/
theorem radicand_eq (mant : Nat) (e : Int) :
    (mant : ℝ) * 2 ^ e = ((if e % 2 == 1 then 2 * mant else mant : Nat) : ℝ) *
      2 ^ (2 * ((if e % 2 == 1 then e - 1 else e) / 2)) := by
  by_cases h : e % 2 = 1
  · have he : e = 2 * ((e - 1) / 2) + 1 := by omega
    rw [beq_iff_eq.2 h, if_pos rfl, if_pos rfl]
    conv_lhs => rw [he, zpow_add₀ two_ne_zero, zpow_one]
    push_cast
    ring
  · have he : e = 2 * (e / 2) := by omega
    rw [beq_eq_false_iff_ne.2 h, if_neg Bool.false_ne_true, if_neg Bool.false_ne_true, ← he]

theorem sqrt_value {fmt : Fmt} {m : RoundingMode} {x : BitVec fmt.width} (hx : isFinite x = true)
    (hz : isZero x = false) (hs : sign x = false) :
    sqrt fmt m x = RoundPack fmt m (Real.sqrt ((value x : ℚ) : ℝ)) := by
  obtain ⟨hn, hi⟩ := isFinite_iff.1 hx
  have hm : 0 < mant x := Nat.pos_of_ne_zero (mt mant_eq_zero_iff.1 (ne_true_of_eq_false hz))
  have hval : ((value x : ℚ) : ℝ) = mant x * 2 ^ exponent x := by
    rw [realValue_eq, hs, signedMant_cast, if_neg Bool.false_ne_true, one_mul]
  rw [hval, radicand_eq, sqrt]
  simp only [hn, hz, hs, hi, Bool.false_eq_true, if_false]
  generalize hr : (if exponent x % 2 == 1 then 2 * mant x else mant x) = r
  have hr0 : 0 < r := by
    rw [← hr]
    split <;> omega
  have hbig : 2 ^ fmt.prec ≤ isqrt (r * 2 ^ (2 * (fmt.prec + 2))) := le_isqrt (by
    calc 2 ^ fmt.prec * 2 ^ fmt.prec = 2 ^ (2 * fmt.prec) := by rw [← pow_add, two_mul]
      _ ≤ 2 ^ (2 * (fmt.prec + 2)) := Nat.pow_le_pow_right (by decide) (by omega)
      _ ≤ r * 2 ^ (2 * (fmt.prec + 2)) := Nat.le_mul_of_pos_left _ hr0)
  have hne : isqrt (r * 2 ^ (2 * (fmt.prec + 2))) ≠ 0 := (lt_of_lt_of_le (by positivity) hbig).ne'
  have hden := denotes_sqrt r (fmt.prec + 2) ((if exponent x % 2 == 1 then exponent x - 1 else exponent x) / 2)
  have hround := hden.roundPack_eq hne (fun _ => (Nat.le_log2 hne).2 hbig) m false
  rw [if_neg Bool.false_ne_true, one_mul] at hround
  exact hround

/-- Settles O54: the special operands by the order of the tests, the rest by `sqrt_value`. -/
theorem squareRootRule : Obligations.SquareRootRule := by
  intro fmt m x
  refine ⟨fun hn => if_pos hn, fun hz => ?_, fun hn hz hs => ?_, fun hi hs => ?_, sqrt_value⟩
  · rw [sqrt, (isFinite_iff.1 (isFinite_of_isZero hz)).1, if_neg Bool.false_ne_true, if_pos hz]
  · rw [sqrt, hn, hz, if_neg Bool.false_ne_true, if_neg Bool.false_ne_true, if_pos hs]
    rfl
  · have hz : isZero x = false := eq_false_of_ne_true fun hz => by
      rw [(isFinite_iff.1 (isFinite_of_isZero hz)).2] at hi
      exact Bool.false_ne_true hi
    rw [sqrt, isNaN_of_isInf hi, hz, hs, if_neg Bool.false_ne_true, if_neg Bool.false_ne_true,
      if_neg Bool.false_ne_true, if_pos hi]

end Sys2Proof.Machine.Kernel
end

section
/-!
PROOFS. NaN, infinite and zero operands of the arithmetic operations (46_fp_kernel.md R309 to R314).
-/

namespace Sys2Proof.Machine.Kernel

section
variable {fmt : Fmt} {m : RoundingMode} {x y : BitVec fmt.width}

theorem isInf_of_isZero (h : isZero x = true) : isInf x = false := (isFinite_iff.1 (isFinite_of_isZero h)).2

theorem isZero_of_isInf (h : isInf x = true) : isZero x = false :=
  eq_false_of_ne_true fun hz => ne_true_of_eq_false (isInf_of_isZero hz) h

theorem nan_operand (h : isNaN x = true ∨ isNaN y = true) :
    add fmt m x y = nanResult fmt (isSignaling x || isSignaling y) ∧
      mul fmt m x y = nanResult fmt (isSignaling x || isSignaling y) ∧
      div fmt m x y = nanResult fmt (isSignaling x || isSignaling y) :=
  have h' : (isNaN x || isNaN y) = true := Bool.or_eq_true_iff.2 h
  ⟨if_pos h', if_pos h', if_pos h'⟩

/-! ### Sums -/

section
variable (hx : isNaN x = false) (hy : isNaN y = false)
include hx hy

theorem add_of_infinite :
    (isInf x = true → isInf y = true → sign x ≠ sign y → add fmt m x y = invalid fmt) ∧
      (isInf x = true → (isInf y = true → sign x = sign y) → add fmt m x y = (x, noFlags)) ∧
      (isInf x = false → isInf y = true → add fmt m x y = (y, noFlags)) := by
  refine ⟨fun hxi hyi hs => ?_, fun hxi hs => ?_, fun hxi hyi => ?_⟩
  · simp [add, hx, hy, hxi, hyi, hs]
  · have hno : (isInf y && sign x != sign y) = false := by
      cases hyi : isInf y with
      | false => rfl
      | true => simp [hs hyi]
    simp [add, hx, hy, hxi, hno]
  · simp [add, hx, hy, hxi, hyi]

end

theorem add_of_zeros (hx : isZero x = true) (hy : isZero y = true) :
    add fmt m x y = (zero fmt (if sign x = sign y then sign x else decide (m = .rdn)), noFlags) := by
  have hsum : ((value x : ℚ) : ℝ) + (value y : ℚ) = 0 := by
    rw [realValue_eq_zero_iff.2 hx, realValue_eq_zero_iff.2 hy, add_zero]
  rw [add_of_finite (isFinite_of_isZero hx) (isFinite_of_isZero hy), if_pos hsum, hx, hy]
  exact congrArg (fun s => (zero fmt s, noFlags)) (if_congr (by simp) rfl rfl)

/-- A number and its negation cancel (R309). -/
theorem add_negate (hx : isFinite x = true) (hz : isZero x = false) :
    add fmt m x (negate x) = (zero fmt (decide (m = .rdn)), noFlags) := by
  have hsum : ((value x : ℚ) : ℝ) + (value (negate x) : ℚ) = 0 := by
    rw [value_negate, Rat.cast_neg, add_neg_cancel]
  rw [add_of_finite hx ((isFinite_negate x).trans hx), if_pos hsum, hz]
  rfl

/-! ### Products and quotients -/

section
variable (hx : isNaN x = false) (hy : isNaN y = false)
include hx hy

theorem mul_of_special :
    (isInf x = true ∧ isZero y = true ∨ isZero x = true ∧ isInf y = true → mul fmt m x y = invalid fmt) ∧
      (isInf x = true ∧ isZero y = false ∨ isZero x = false ∧ isInf y = true →
        mul fmt m x y = (infinity fmt (sign x != sign y), noFlags)) ∧
      (isZero x = true ∧ isInf y = false ∨ isInf x = false ∧ isZero y = true →
        mul fmt m x y = (zero fmt (sign x != sign y), noFlags)) := by
  refine ⟨?_, ?_, ?_⟩
  · rintro (⟨hxi, hyz⟩ | ⟨hxz, hyi⟩)
    · simp [mul, hx, hy, hxi, hyz]
    · simp [mul, hx, hy, hxz, hyi]
  · rintro (⟨hxi, hyz⟩ | ⟨hxz, hyi⟩)
    · simp [mul, hx, hy, hxi, hyz, isZero_of_isInf hxi]
    · simp [mul, hx, hy, hxz, hyi, isZero_of_isInf hyi]
  · rintro (⟨hxz, hyi⟩ | ⟨hxi, hyz⟩)
    · simp [mul, hx, hy, hxz, hyi, isInf_of_isZero hxz]
    · simp [mul, hx, hy, hxi, hyz, isInf_of_isZero hyz]

theorem div_of_special :
    (isInf x = true → isInf y = true → div fmt m x y = invalid fmt) ∧
      (isInf x = true → isInf y = false → div fmt m x y = (infinity fmt (sign x != sign y), noFlags)) ∧
      (isInf x = false → isInf y = true → div fmt m x y = (zero fmt (sign x != sign y), noFlags)) ∧
      (isZero x = true → isZero y = true → div fmt m x y = invalid fmt) ∧
      (isFinite x = true → isZero x = false → isZero y = true →
        div fmt m x y = (infinity fmt (sign x != sign y), flagDZ)) ∧
      (isZero x = true → isFinite y = true → isZero y = false →
        div fmt m x y = (zero fmt (sign x != sign y), noFlags)) := by
  refine ⟨fun hxi hyi => ?_, fun hxi hyi => ?_, fun hxi hyi => ?_, fun hxz hyz => ?_, fun hxf hxz hyz => ?_,
    fun hxz hyf hyz => ?_⟩
  · simp [div, hx, hy, hxi, hyi]
  · simp [div, hx, hy, hxi, hyi]
  · simp [div, hx, hy, hxi, hyi]
  · simp [div, hx, hy, hxz, hyz, isInf_of_isZero hxz, isInf_of_isZero hyz]
  · simp [div, hx, hy, hxz, hyz, (isFinite_iff.1 hxf).2, isInf_of_isZero hyz]
  · simp [div, hx, hy, hxz, hyz, isInf_of_isZero hxz, (isFinite_iff.1 hyf).2]

end
end

/-- Settles O52: NaN operands, then the infinities and zeros of each operation. -/
theorem arithmeticSpecialCases : Obligations.ArithmeticSpecialCases := by
  intro fmt m x y sx sy cancel nan inv inf zer
  refine ⟨fun h => ?_, fun hx hy => ?_, rfl⟩
  · obtain ⟨hadd, hmul, hdiv⟩ := nan_operand (m := m) h
    obtain ⟨hsub, -⟩ := nan_operand (m := m) (x := x) (y := negate y) ((isNaN_negate y).symm ▸ h)
    rw [isSignaling_negate] at hsub
    exact ⟨hadd, hsub, hmul, hdiv⟩
  · obtain ⟨hadd1, hadd2, hadd3⟩ := add_of_infinite (m := m) hx hy
    obtain ⟨hmul1, hmul2, hmul3⟩ := mul_of_special (m := m) hx hy
    exact ⟨hadd1, hadd2, hadd3, add_of_zeros, fun hf hz hneg => hneg ▸ add_negate hf hz, hmul1, hmul2, hmul3,
      div_of_special hx hy⟩

end Sys2Proof.Machine.Kernel
end

section
/-!
SUPPORT. What rounding returns (46_fp_kernel.md R308): never a NaN; and a number that the format holds, as it is and
without a flag.
-/

namespace Sys2Proof.Machine.Kernel

/-! ### Rounding never returns a NaN -/

theorem isNaN_pack {fmt : Fmt} {mag : Nat} (s : Bool) (h : mag ≤ infMagnitude fmt) :
    isNaN (pack fmt s mag) = false := by
  refine eq_false_of_ne_true fun hn => ?_
  rw [isNaN_iff_magnitude, magnitude_pack s (h.trans_lt (infMagnitude_lt fmt))] at hn
  exact hn.not_ge h

theorem isNaN_infinity (fmt : Fmt) (s : Bool) : isNaN (infinity fmt s) = false := isNaN_pack s le_rfl

theorem isNaN_maxFinite (fmt : Fmt) (s : Bool) : isNaN (maxFinite fmt s) = false := isNaN_pack s (Nat.sub_le _ _)

theorem isNaN_zero (fmt : Fmt) (s : Bool) : isNaN (zero fmt s) = false := isNaN_pack s (Nat.zero_le _)

/-- A magnitude below `2 ^ k` units is rounded to at most `2 ^ k`. -/
theorem rint_fst_le {m : RoundingMode} {s sticky : Bool} {mant k : Nat} {exp unit : Int}
    (h : exp + mant.log2 + 1 ≤ unit + k) : (rint m s mant exp sticky unit).1 ≤ 2 ^ k := by
  have hlt : mant * 2 ^ (exp - unit).toNat / 2 ^ (unit - exp).toNat < 2 ^ k := by
    rw [Nat.div_lt_iff_lt_mul (by positivity), ← pow_add]
    calc mant * 2 ^ (exp - unit).toNat
        < 2 ^ (mant.log2 + 1) * 2 ^ (exp - unit).toNat := Nat.mul_lt_mul_of_pos_right Nat.lt_log2_self (by positivity)
      _ = 2 ^ (mant.log2 + 1 + (exp - unit).toNat) := (pow_add _ _ _).symm
      _ ≤ 2 ^ (k + (unit - exp).toNat) := Nat.pow_le_pow_right (by decide) (by omega)
  rw [rint]
  split
  · exact hlt.le
  · dsimp only
    split
    · exact hlt
    · exact hlt.le

theorem expMax_eq (fmt : Fmt) : fmt.expMax = 2 * fmt.bias + 1 := by cases fmt <;> decide

/-- The magnitude of a normal result is below that of the infinities. -/
theorem normal_magnitude_lt {fmt : Fmt} {e : Int} {f : Nat} (he : e ≤ fmt.emax) (hf : f < 2 ^ fmt.fracBits) :
    (e + fmt.bias).toNat * 2 ^ fmt.fracBits + f < infMagnitude fmt := by
  have hexp : (e + fmt.bias).toNat + 1 ≤ fmt.expMax := by
    rw [expMax_eq]
    rw [Fmt.emax] at he
    omega
  calc (e + fmt.bias).toNat * 2 ^ fmt.fracBits + f < ((e + fmt.bias).toNat + 1) * 2 ^ fmt.fracBits := by
        rw [Nat.succ_mul]
        exact Nat.add_lt_add_left hf _
    _ ≤ infMagnitude fmt := Nat.mul_le_mul_right _ hexp

theorem isNaN_roundPack (fmt : Fmt) (m : RoundingMode) (s : Bool) (mant : Nat) (exp : Int) (sticky : Bool) :
    isNaN (roundPack fmt m s mant exp sticky).1 = false := by
  have hu := rint_fst_le (m := m) (s := s) (sticky := sticky) (mant := mant) (exp := exp) (k := fmt.prec)
    (unit := exp + mant.log2 - fmt.prec + 1) (by omega)
  rw [roundPack]
  generalize (rint m s mant exp sticky (exp + mant.log2 - fmt.prec + 1)) = u at *
  have hfrac : (if u.1 == 2 ^ fmt.prec then 2 ^ fmt.fracBits else u.1) - 2 ^ fmt.fracBits < 2 ^ fmt.fracBits := by
    have hpos : 0 < 2 ^ fmt.fracBits := by positivity
    by_cases hc : u.1 = 2 ^ fmt.prec
    · rw [if_pos (beq_iff_eq.2 hc), Nat.sub_self]
      exact hpos
    · rw [if_neg (mt beq_iff_eq.1 hc)]
      have hlt := hu.lt_of_ne hc
      rw [Fmt.prec, pow_succ] at hlt
      omega
  dsimp only
  generalize (if u.1 == 2 ^ fmt.prec then 2 ^ fmt.fracBits else u.1) - 2 ^ fmt.fracBits = f at hfrac ⊢
  generalize (if u.1 == 2 ^ fmt.prec then exp + mant.log2 + 1 else exp + mant.log2) = e
  by_cases hov : fmt.emax < e
  · rw [if_pos hov]
    dsimp only
    split
    · exact isNaN_infinity fmt s
    · exact isNaN_maxFinite fmt s
  rw [if_neg hov]
  by_cases hsub : exp + mant.log2 < fmt.emin
  · rw [if_pos hsub]
    refine isNaN_pack s ((rint_fst_le (k := fmt.fracBits) ?_).trans ?_)
    · rw [Fmt.prec]
      push_cast
      omega
    · exact Nat.le_mul_of_pos_left _ (Nat.pos_of_ne_zero fmt.expMax_ne_zero)
  · rw [if_neg hsub]
    exact isNaN_pack s (normal_magnitude_lt (not_lt.1 hov) hfrac).le

/-! ### Numbers the format holds -/

/-- A whole number of units is rounded to itself. -/
theorem rint_exact (m : RoundingMode) (s : Bool) {mant : Nat} {exp unit : Int} (h : unit ≤ exp) :
    rint m s mant exp false unit = (mant * 2 ^ (exp - unit).toNat, false) := by
  have hone : (unit - exp).toNat = 0 := by omega
  rw [rint]
  simp [hone, Nat.mod_one]

/-- Rounding a number in the normal range with at most the format's precision. -/
theorem roundPack_normal {fmt : Fmt} {m : RoundingMode} {s : Bool} {mant : Nat} {exp : Int}
    (hlog : mant.log2 ≤ fmt.fracBits) (hmin : fmt.emin ≤ exp + mant.log2) (hmax : exp + mant.log2 ≤ fmt.emax) :
    roundPack fmt m s mant exp false =
      (pack fmt s ((exp + mant.log2 + fmt.bias).toNat * 2 ^ fmt.fracBits +
        (mant * 2 ^ (fmt.fracBits - mant.log2) - 2 ^ fmt.fracBits)), noFlags) := by
  have hscale : (exp - (exp + mant.log2 - fmt.prec + 1)).toNat = fmt.fracBits - mant.log2 := by
    rw [Fmt.prec]
    omega
  have hne : mant * 2 ^ (fmt.fracBits - mant.log2) ≠ 2 ^ fmt.prec := by
    refine (lt_of_lt_of_eq (Nat.mul_lt_mul_of_pos_right Nat.lt_log2_self (by positivity)) ?_).ne
    rw [← pow_add, Fmt.prec]
    congr 1
    omega
  rw [roundPack, rint_exact m s (by rw [Fmt.prec]; omega), hscale]
  simp only [beq_eq_false_iff_ne.2 hne, Bool.false_eq_true, if_false]
  rw [if_neg (not_lt.2 hmax), if_neg (not_lt.2 hmin)]
  rfl

theorem emin_le_emax (fmt : Fmt) : fmt.emin ≤ fmt.emax := by cases fmt <;> decide

/-- Rounding a number in the subnormal range that is a whole number of units of it. -/
theorem roundPack_subnormal {fmt : Fmt} {m : RoundingMode} {s : Bool} {mant : Nat} {exp : Int}
    (hsub : exp + mant.log2 < fmt.emin) (hexp : fmt.emin - fmt.fracBits ≤ exp) :
    roundPack fmt m s mant exp false =
      (pack fmt s (mant * 2 ^ (exp - (fmt.emin - fmt.fracBits)).toNat), noFlags) := by
  have hunit : fmt.emin - fmt.prec + 1 = fmt.emin - fmt.fracBits := by
    rw [Fmt.prec]
    push_cast
    ring
  have hov : ∀ b : Bool, ¬fmt.emax < if b then exp + mant.log2 + 1 else exp + mant.log2 := fun b => by
    have := emin_le_emax fmt
    cases b
    · rw [if_neg Bool.false_ne_true]
      omega
    · rw [if_pos rfl]
      omega
  rw [roundPack, hunit, rint_exact m s hexp]
  dsimp only
  rw [if_neg (hov _), if_pos hsub, Bool.false_and]
  rfl

theorem emax_eq (fmt : Fmt) : fmt.emax = fmt.expMax - 1 - fmt.bias := by
  rw [expMax_eq, Fmt.emax]
  push_cast
  ring

theorem expField_lt_of_isFinite {fmt : Fmt} {x : BitVec fmt.width} (hx : isFinite x = true) :
    expField x < fmt.expMax := (expField_le x).lt_of_ne (bne_iff_ne.1 hx)

/-- A finite pattern that is no zero is the rounding of its own value. -/
theorem roundPack_pattern {fmt : Fmt} {m : RoundingMode} {x : BitVec fmt.width} (hx : isFinite x = true)
    (hz : isZero x = false) : roundPack fmt m (sign x) (mant x) (exponent x) false = (x, noFlags) := by
  have hlt := expField_lt_of_isFinite hx
  have hf := fracField_lt x
  have hmag := magnitude_eq x
  by_cases he : expField x = 0
  · have hmant : mant x = fracField x := if_pos he
    have hexp : exponent x = fmt.emin - fmt.fracBits := by
      rw [exponent, he, Fmt.emin]
      rfl
    have hlog : (mant x).log2 < fmt.fracBits :=
      (Nat.log2_lt (mt mant_eq_zero_iff.1 (ne_true_of_eq_false hz))).2 (hmant ▸ hf)
    rw [roundPack_subnormal (by omega) hexp.ge, hexp, sub_self, Int.toNat_zero, pow_zero, mul_one, hmant]
    rw [he, Nat.zero_mul, Nat.zero_add] at hmag
    rw [← hmag, ← eq_pack]
  · have hmant : mant x = 2 ^ fmt.fracBits + fracField x := if_neg he
    have hlog : (mant x).log2 = fmt.fracBits := by
      rw [Nat.log2_eq_iff (by rw [hmant]; positivity), hmant, pow_succ]
      omega
    have hexp : exponent x + fmt.fracBits = expField x - fmt.bias := by
      rw [exponent]
      omega
    rw [roundPack_normal (by rw [hlog]) (by rw [hlog, hexp, Fmt.emin]; omega)
      (by rw [hlog, hexp, emax_eq]; omega), hlog, hexp, sub_add_cancel, Int.toNat_natCast, Nat.sub_self, pow_zero,
      mul_one, hmant, Nat.add_sub_cancel_left, ← hmag, ← eq_pack]

end Sys2Proof.Machine.Kernel
end

section
/-!
PROOFS. The conversions (46_fp_kernel.md R321 to R324), and that every NaN an operation returns is the canonical one
(R303, R325).
-/

namespace Sys2Proof.Machine.Kernel

/-! ### From and to integers -/

section
variable {fmt : Fmt} {m : RoundingMode} {x : BitVec fmt.width}

theorem abs_realValue (x : BitVec fmt.width) : |((value x : ℚ) : ℝ)| = mant x * 2 ^ exponent x := by
  have hpos : (0 : ℝ) ≤ mant x * 2 ^ exponent x := by positivity
  rw [realValue_eq, signedMant_cast, mul_assoc]
  cases sign x <;> simp [abs_of_nonneg hpos]

theorem realValue_eq_abs (x : BitVec fmt.width) :
    ((value x : ℚ) : ℝ) = (if sign x then -1 else 1) * |((value x : ℚ) : ℝ)| := by
  rw [abs_realValue, realValue_eq, signedMant_cast, mul_assoc]

/-- The value rounded to an integer with its sign (R323). -/
noncomputable def roundedInt (m : RoundingMode) (x : BitVec fmt.width) : Int :=
  if sign x then -RInt m true |((value x : ℚ) : ℝ)| else RInt m false |((value x : ℚ) : ℝ)|

theorem rint_value (m : RoundingMode) (x : BitVec fmt.width) :
    signedMant (sign x) (rint m (sign x) (mant x) (exponent x) false 0).1 = roundedInt m x ∧
      (rint m (sign x) (mant x) (exponent x) false 0).2 = decide ((roundedInt m x : ℝ) ≠ (value x : ℚ)) := by
  have hden : Denotes (mant x) (exponent x) false |((value x : ℚ) : ℝ)| := abs_realValue x
  have hfst := hden.rint_fst (unit := 0) nofun m (sign x)
  have hsnd := hden.rint_snd (unit := 0) nofun m (sign x)
  rw [zpow_zero, div_one] at hfst hsnd
  rw [mul_one] at hsnd
  constructor
  · rw [signedMant, hfst, roundedInt]
    cases sign x <;> rfl
  · rw [hsnd]
    refine decide_eq_decide.2 (not_congr ?_)
    conv_rhs => rw [realValue_eq_abs x, roundedInt]
    cases sign x <;> simp

theorem cvtFI_of_finite (hx : isFinite x = true) (signed : Bool) :
    cvtFI fmt m x signed =
      if roundedInt m x < intLow signed then (BitVec.ofInt 32 (intLow signed), flagNV)
      else if intHigh signed < roundedInt m x then (BitVec.ofInt 32 (intHigh signed), flagNV)
      else (BitVec.ofInt 32 (roundedInt m x), raiseIf (decide ((roundedInt m x : ℝ) ≠ (value x : ℚ))) flagNX) := by
  obtain ⟨hn, hi⟩ := isFinite_iff.1 hx
  obtain ⟨hfst, hsnd⟩ := rint_value m x
  rw [cvtFI, hn, hi, if_neg Bool.false_ne_true, if_neg Bool.false_ne_true]
  dsimp only
  rw [hfst, hsnd]

end

theorem intLow_eq (signed : Bool) : intLow signed = if signed then -2 ^ 31 else 0 := by cases signed <;> rfl

theorem intHigh_eq (signed : Bool) : intHigh signed = if signed then 2 ^ 31 - 1 else 2 ^ 32 - 1 := by
  cases signed <;> rfl

theorem intLow_le_intHigh (signed : Bool) : intLow signed ≤ intHigh signed := by cases signed <;> decide

theorem zero_false (fmt : Fmt) : zero fmt false = 0#_ := by cases fmt <;> rfl

/-- Settles O55: NaN and the infinities by the order of the tests, a finite value by its rounded integer. -/
theorem integerConversionRule : Obligations.IntegerConversionRule := by
  intro fmt m x signed n
  rw [← intLow_eq, ← intHigh_eq]
  intro lo hi v r i
  have hr : r = roundedInt m x := rfl
  have hle := intLow_le_intHigh signed
  refine ⟨fun hn => if_pos hn, fun hinf => ?_, fun hx hlo => ?_, fun hx hhi => ?_, fun hx hlo hhi hv => ?_,
    fun hx hlo hhi hv => ?_, fun hi0 => ?_, fun hi0 => ?_⟩
  · rw [cvtFI, isNaN_of_isInf hinf, if_neg Bool.false_ne_true, if_pos hinf]
  · rw [cvtFI_of_finite hx]
    exact if_pos hlo
  · rw [cvtFI_of_finite hx, if_neg (by omega)]
    exact if_pos hhi
  · rw [cvtFI_of_finite hx, if_neg (by omega), if_neg (by omega), ← hr, decide_eq_false (not_not.2 hv)]
    rfl
  · rw [cvtFI_of_finite hx, if_neg (by omega), if_neg (by omega), ← hr, decide_eq_true hv]
    rfl
  · rw [cvtIF, if_pos hi0, zero_false]
  · rw [cvtIF, if_neg hi0, roundInt_eq hi0, zpow_zero, mul_one]

/-! ### Between the formats -/

section
variable {src dst : Fmt} {m : RoundingMode} {x : BitVec src.width}

theorem convert_of_finite (hx : isFinite x = true) (hz : isZero x = false) :
    convert src dst m x = roundPack dst m (sign x) (mant x) (exponent x) false := by
  obtain ⟨hn, hi⟩ := isFinite_iff.1 hx
  rw [convert, hn, hi, hz, if_neg Bool.false_ne_true, if_neg Bool.false_ne_true, if_neg Bool.false_ne_true]

theorem convert_of_zero (hz : isZero x = true) : convert src dst m x = (zero dst (sign x), noFlags) := by
  obtain ⟨hn, hi⟩ := isFinite_iff.1 (isFinite_of_isZero hz)
  rw [convert, hn, hi, hz, if_neg Bool.false_ne_true, if_neg Bool.false_ne_true, if_pos rfl]

theorem convert_of_inf (hi : isInf x = true) : convert src dst m x = (infinity dst (sign x), noFlags) := by
  rw [convert, isNaN_of_isInf hi, hi, if_neg Bool.false_ne_true, if_pos rfl]

theorem roundPack_value (hz : isZero x = false) :
    roundPack dst m (sign x) (mant x) (exponent x) false = RoundPack dst m ((value x : ℚ) : ℝ) := by
  rw [Denotes.roundPack_eq (a := mant x * 2 ^ exponent x) (sticky := false) rfl
    (mt mant_eq_zero_iff.1 (ne_true_of_eq_false hz)) nofun, realValue_eq, signedMant_cast, mul_assoc]

end

/-- A normal pattern put together from its fields. -/
theorem normal_pattern {fmt : Fmt} (s : Bool) {e f : Nat} (he : 0 < e) (hmax : e < fmt.expMax)
    (hf : f < 2 ^ fmt.fracBits) :
    sign (pack fmt s (e * 2 ^ fmt.fracBits + f)) = s ∧ isFinite (pack fmt s (e * 2 ^ fmt.fracBits + f)) = true ∧
      isZero (pack fmt s (e * 2 ^ fmt.fracBits + f)) = false ∧
      ((value (pack fmt s (e * 2 ^ fmt.fracBits + f)) : ℚ) : ℝ) =
        (if s then -1 else 1) * (2 ^ fmt.fracBits + f : Nat) * 2 ^ ((e : Int) - fmt.bias - fmt.fracBits) := by
  have hpos : 0 < 2 ^ fmt.fracBits := by positivity
  have hlt : e * 2 ^ fmt.fracBits + f < infMagnitude fmt := by
    calc e * 2 ^ fmt.fracBits + f < (e + 1) * 2 ^ fmt.fracBits := by
          rw [Nat.succ_mul]
          exact Nat.add_lt_add_left hf _
      _ ≤ infMagnitude fmt := Nat.mul_le_mul_right _ hmax
  have hsign := sign_pack s (hlt.trans (infMagnitude_lt fmt))
  have hmag := magnitude_pack s (hlt.trans (infMagnitude_lt fmt))
  generalize pack fmt s (e * 2 ^ fmt.fracBits + f) = y at *
  have hexp : expField y = e := by
    rw [← magnitude_div, hmag, Nat.add_comm, Nat.add_mul_div_right _ _ hpos, Nat.div_eq_of_lt hf, Nat.zero_add]
  have hfrac : fracField y = f := by
    rw [← magnitude_mod, hmag, Nat.add_comm, Nat.add_mul_mod_self_right, Nat.mod_eq_of_lt hf]
  refine ⟨hsign, isFinite_iff_magnitude.2 (hmag ▸ hlt), ?_, ?_⟩
  · rw [isZero, hexp, beq_eq_false_iff_ne.2 he.ne', Bool.false_and]
  · rw [realValue_eq, hsign, signedMant_cast, mant, hexp, hfrac, if_neg he.ne', exponent, hexp, max_eq_left he]

/-- A number in the normal range with at most the format's precision is returned without loss. -/
theorem roundPack_exact {fmt : Fmt} {m : RoundingMode} {s : Bool} {mant : Nat} {exp : Int} (hmant : mant ≠ 0)
    (hlog : mant.log2 ≤ fmt.fracBits) (hmin : fmt.emin ≤ exp + mant.log2) (hmax : exp + mant.log2 ≤ fmt.emax) :
    ∃ y : BitVec fmt.width, roundPack fmt m s mant exp false = (y, noFlags) ∧ sign y = s ∧ isFinite y = true ∧
      isZero y = false ∧ ((value y : ℚ) : ℝ) = (if s then -1 else 1) * mant * 2 ^ exp := by
  have hlow : 2 ^ fmt.fracBits ≤ mant * 2 ^ (fmt.fracBits - mant.log2) := by
    calc 2 ^ fmt.fracBits = 2 ^ mant.log2 * 2 ^ (fmt.fracBits - mant.log2) := by
          rw [← pow_add, Nat.add_sub_cancel' hlog]
      _ ≤ mant * 2 ^ (fmt.fracBits - mant.log2) := Nat.mul_le_mul_right _ (Nat.log2_self_le hmant)
  have hhigh : mant * 2 ^ (fmt.fracBits - mant.log2) < 2 * 2 ^ fmt.fracBits := by
    calc mant * 2 ^ (fmt.fracBits - mant.log2) < 2 ^ (mant.log2 + 1) * 2 ^ (fmt.fracBits - mant.log2) :=
          Nat.mul_lt_mul_of_pos_right Nat.lt_log2_self (by positivity)
      _ = 2 * 2 ^ fmt.fracBits := by
        rw [← pow_add, ← pow_succ']
        congr 1
        omega
  rw [Fmt.emin] at hmin
  rw [emax_eq] at hmax
  obtain ⟨hsign, hfin, hzero, hvalue⟩ := normal_pattern (fmt := fmt) s (e := (exp + mant.log2 + fmt.bias).toNat)
    (f := mant * 2 ^ (fmt.fracBits - mant.log2) - 2 ^ fmt.fracBits) (by omega) (by omega) (by omega)
  refine ⟨_, roundPack_normal hlog (by rw [Fmt.emin]; exact hmin) (by rw [emax_eq]; exact hmax), hsign, hfin, hzero,
    hvalue.trans ?_⟩
  rw [Nat.add_sub_cancel' hlow, Int.toNat_of_nonneg (by omega), mul_assoc, mul_assoc]
  congr 1
  push_cast
  rw [mul_assoc, ← zpow_natCast, ← zpow_add₀ two_ne_zero]
  congr 2
  omega

/-- A single that is no zero is exact in double (R321). -/
theorem single_exact {x : BitVec Fmt.single.width} (hx : isFinite x = true) (hz : isZero x = false) :
    ∃ y : BitVec Fmt.double.width, convert .single .double .rne x = (y, noFlags) ∧ sign y = sign x ∧
      isFinite y = true ∧ isZero y = false ∧ ((value y : ℚ) : ℝ) = (value x : ℚ) := by
  have hmant : mant x ≠ 0 := mt mant_eq_zero_iff.1 (ne_true_of_eq_false hz)
  have hlog : (mant x).log2 < 24 := (Nat.log2_lt hmant).2 (mant_lt x)
  have hexp : -149 ≤ exponent x ∧ exponent x ≤ 104 := by
    have hlt : expField x < 255 := expField_lt_of_isFinite hx
    have h : exponent x = (max (expField x) 1 : Nat) - 127 - 23 := rfl
    omega
  obtain ⟨y, hround, hsign, hfin, hzero, hvalue⟩ := roundPack_exact (fmt := .double) (m := .rne) (s := sign x)
    (exp := exponent x) hmant (show _ ≤ 52 by omega) (show -1022 ≤ _ by omega) (show _ ≤ 1023 by omega)
  refine ⟨y, (convert_of_finite hx hz).trans hround, hsign, hfin, hzero, hvalue.trans ?_⟩
  rw [realValue_eq, signedMant_cast]

/-! Infinities and zeros -/

section
variable {fmt : Fmt} (s : Bool)

theorem sign_infinity : sign (infinity fmt s) = s := sign_pack s (infMagnitude_lt fmt)

theorem isInf_infinity : isInf (infinity fmt s) = true :=
  isInf_iff_magnitude.2 (magnitude_pack s (infMagnitude_lt fmt))

theorem sign_zero : sign (zero fmt s) = s := sign_pack s (by positivity)

theorem isZero_zero : isZero (zero fmt s) = true := isZero_iff_magnitude.2 (magnitude_pack s (by positivity))

theorem eq_infinity_of_isInf {x : BitVec fmt.width} (h : isInf x = true) : infinity fmt (sign x) = x := by
  rw [eq_pack x, isInf_iff_magnitude.1 h]
  exact congrArg (infinity fmt) (sign_pack _ (infMagnitude_lt fmt))

theorem eq_zero_of_isZero {x : BitVec fmt.width} (h : isZero x = true) : zero fmt (sign x) = x :=
  (eq_zero_of_magnitude (isZero_iff_magnitude.1 h)).symm

theorem value_of_isZero {x : BitVec fmt.width} (h : isZero x = true) : value x = 0 :=
  Rat.cast_eq_zero.1 (realValue_eq_zero_iff.2 h)

end

/-- What a single becomes in double, and that it comes back (R321, R322). -/
theorem single_round_trip {x : BitVec Fmt.single.width} (hn : isNaN x = false) :
    ∃ y : BitVec Fmt.double.width, convert .single .double .rne x = (y, noFlags) ∧ sign y = sign x ∧
      isNaN y = false ∧ isInf y = isInf x ∧ (isInf x = false → value y = value x) ∧
      ∀ m, convert .double .single m y = (x, noFlags) := by
  cases hi : isInf x with
  | true =>
    refine ⟨_, convert_of_inf hi, sign_infinity _, isNaN_infinity _ _, isInf_infinity _, nofun, fun m => ?_⟩
    rw [convert_of_inf (isInf_infinity _), sign_infinity, eq_infinity_of_isInf hi]
  | false =>
    cases hz : isZero x with
    | true =>
      have hzero := isZero_zero (fmt := .double) (sign x)
      refine ⟨_, convert_of_zero hz, sign_zero _, isNaN_zero _ _, isInf_of_isZero hzero, fun _ => ?_, fun m => ?_⟩
      · rw [value_of_isZero hzero, value_of_isZero hz]
      · rw [convert_of_zero hzero, sign_zero, eq_zero_of_isZero hz]
    | false =>
      have hf : isFinite x = true := isFinite_iff.2 ⟨hn, hi⟩
      obtain ⟨y, hcvt, hsign, hfin, hzero, hvalue⟩ := single_exact hf hz
      obtain ⟨hyn, hyi⟩ := isFinite_iff.1 hfin
      refine ⟨y, hcvt, hsign, hyn, hyi, fun _ => Rat.cast_injective hvalue, fun m => ?_⟩
      rw [convert_of_finite hfin hzero, roundPack_value hzero, hvalue, ← roundPack_value hz, roundPack_pattern hf hz]

theorem infinity_single (s : Bool) : infinity .single s = if s then 0xff800000#32 else 0x7f800000#32 := by
  cases s <;> rfl

theorem zero_single (s : Bool) : zero .single s = if s then 0x80000000#32 else 0x00000000#32 := by
  cases s <;> rfl

/-- Settles O56: a single is exact in double, and rounding that value back gives the single's own pattern. -/
theorem formatConversionRule : Obligations.FormatConversionRule := by
  intro m x d isNaNS isNaND isInfS isInfD isZeroD sD
  refine ⟨fun hn => if_pos hn, fun hn => ?_, fun hn => if_pos hn, fun hi => ?_, fun hz => ?_,
    fun hf hz => (convert_of_finite hf hz).trans (roundPack_value hz)⟩
  · obtain ⟨y, hcvt, hsign, hyn, hyi, hvalue, hback⟩ := single_round_trip hn
    rw [show cvtSD x = (y, noFlags) from hcvt]
    exact ⟨rfl, hsign, hyn, hyi, hvalue, hback m⟩
  · exact (convert_of_inf hi).trans (congrArg (·, noFlags) (infinity_single _))
  · exact (convert_of_zero hz).trans (congrArg (·, noFlags) (zero_single _))

/-! ### Canonical NaNs -/

/-- A result that is no NaN but the canonical one. -/
def OnlyCanonical {fmt : Fmt} (r : BitVec fmt.width) : Prop := isNaN r = true → r = cNaN fmt

section
variable {fmt : Fmt} {m : RoundingMode} {x y z : BitVec fmt.width}

theorem onlyCanonical_cNaN : OnlyCanonical (cNaN fmt) := fun _ => rfl

theorem OnlyCanonical.of_not_nan (h : isNaN x = false) : OnlyCanonical x := fun hn =>
  absurd hn (ne_true_of_eq_false h)

theorem onlyCanonical_roundPack (s : Bool) (mant : Nat) (exp : Int) (sticky : Bool) :
    OnlyCanonical (roundPack fmt m s mant exp sticky).1 :=
  .of_not_nan (isNaN_roundPack fmt m s mant exp sticky)

theorem onlyCanonical_infinity (s : Bool) : OnlyCanonical (infinity fmt s) := .of_not_nan (isNaN_infinity fmt s)

theorem onlyCanonical_zero (s : Bool) : OnlyCanonical (zero fmt s) := .of_not_nan (isNaN_zero fmt s)

theorem OnlyCanonical.of_isInf (h : isInf x = true) : OnlyCanonical x := .of_not_nan (isNaN_of_isInf h)

theorem OnlyCanonical.of_isZero (h : isZero x = true) : OnlyCanonical x :=
  .of_not_nan (isFinite_iff.1 (isFinite_of_isZero h)).1

theorem add_onlyCanonical : OnlyCanonical (add fmt m x y).1 := by
  rw [add]
  dsimp only
  split_ifs with hn hinv hx hy hr hz
  · exact onlyCanonical_cNaN
  · exact onlyCanonical_cNaN
  · exact .of_isInf hx
  · exact .of_isInf hy
  · exact onlyCanonical_zero _
  · exact onlyCanonical_zero _
  · exact onlyCanonical_roundPack _ _ _ _

theorem mul_onlyCanonical : OnlyCanonical (mul fmt m x y).1 := by
  rw [mul]
  split_ifs
  · exact onlyCanonical_cNaN
  · exact onlyCanonical_cNaN
  · exact onlyCanonical_infinity _
  · exact onlyCanonical_zero _
  · exact onlyCanonical_roundPack _ _ _ _

theorem div_onlyCanonical : OnlyCanonical (div fmt m x y).1 := by
  rw [div]
  dsimp only
  split_ifs
  · exact onlyCanonical_cNaN
  · exact onlyCanonical_cNaN
  · exact onlyCanonical_infinity _
  · exact onlyCanonical_zero _
  · exact onlyCanonical_cNaN
  · exact onlyCanonical_infinity _
  · exact onlyCanonical_zero _
  · exact onlyCanonical_roundPack _ _ _ _

theorem sqrt_onlyCanonical : OnlyCanonical (sqrt fmt m x).1 := by
  rw [sqrt]
  dsimp only
  split_ifs with hn hz hs hi
  · exact onlyCanonical_cNaN
  · exact .of_isZero hz
  · exact onlyCanonical_cNaN
  · exact .of_isInf hi
  all_goals exact onlyCanonical_roundPack _ _ _ _

theorem fma_onlyCanonical : OnlyCanonical (fma fmt m x y z).1 := by
  rw [fma]
  dsimp only
  split_ifs with hinv hn hi hopp hz
  · exact onlyCanonical_cNaN
  · exact onlyCanonical_cNaN
  · exact onlyCanonical_cNaN
  · exact onlyCanonical_infinity _
  · exact .of_isInf hz
  · exact onlyCanonical_zero _
  · exact onlyCanonical_zero _
  · exact onlyCanonical_roundPack _ _ _ _

/-- Minimum and maximum return an operand only where it is no NaN (R317). -/
theorem choose_onlyCanonical (c : Bool) (fl : FlagSet) :
    OnlyCanonical (if isNaN x && isNaN y then (cNaN fmt, fl) else if isNaN x then (y, fl) else if isNaN y then (x, fl)
      else if c then (x, fl) else (y, fl)).1 := by
  cases hx : isNaN x <;> cases hy : isNaN y
  · cases c
    · exact .of_not_nan hy
    · exact .of_not_nan hx
  · exact .of_not_nan hx
  · exact .of_not_nan hy
  · exact onlyCanonical_cNaN

theorem cvtIF_onlyCanonical (w : Word) (signed : Bool) : OnlyCanonical (cvtIF fmt m w signed).1 := by
  rw [cvtIF]
  generalize (if signed then w.toInt else (w.toNat : Int)) = i
  split
  · exact onlyCanonical_zero _
  · exact onlyCanonical_roundPack _ _ _ _

theorem convert_onlyCanonical (dst : Fmt) : OnlyCanonical (convert fmt dst m x).1 := by
  rw [convert]
  split_ifs
  · exact onlyCanonical_cNaN
  · exact onlyCanonical_infinity _
  · exact onlyCanonical_zero _
  · exact onlyCanonical_roundPack _ _ _ _

/-! ### Commutativity (R325) -/

theorem add_comm_of_finite (hx : isFinite x = true) (hy : isFinite y = true) : add fmt m x y = add fmt m y x := by
  have hzero : (if isZero x && isZero y && sign x == sign y then sign x else cancelSign m) =
      if isZero y && isZero x && sign y == sign x then sign y else cancelSign m := by
    cases isZero x <;> cases isZero y <;> cases sign x <;> cases sign y <;> rfl
  rw [add_of_finite hx hy, add_of_finite hy hx, add_comm, hzero]

theorem add_comm_operands : add fmt m x y = add fmt m y x := by
  by_cases hn : isNaN x = true ∨ isNaN y = true
  · rw [(nan_operand hn).1, (nan_operand hn.symm).1, Bool.or_comm]
  obtain ⟨hx, hy⟩ := not_or.1 hn
  rw [Bool.not_eq_true] at hx hy
  obtain ⟨hxy1, hxy2, hxy3⟩ := add_of_infinite (m := m) hx hy
  obtain ⟨hyx1, hyx2, hyx3⟩ := add_of_infinite (m := m) hy hx
  cases hxi : isInf x with
  | true =>
    cases hyi : isInf y with
    | true =>
      by_cases hs : sign x = sign y
      · have heq : x = y :=
          eq_of_sign_of_magnitude hs ((magnitude_of_isInf hxi).trans (magnitude_of_isInf hyi).symm)
        rw [heq]
      · rw [hxy1 hxi hyi hs, hyx1 hyi hxi (Ne.symm hs)]
    | false => rw [hxy2 hxi fun h => absurd (hyi.symm.trans h) Bool.false_ne_true, hyx3 hyi hxi]
  | false =>
    cases hyi : isInf y with
    | true => rw [hxy3 hxi hyi, hyx2 hyi fun h => absurd (hxi.symm.trans h) Bool.false_ne_true]
    | false => exact add_comm_of_finite (isFinite_iff.2 ⟨hx, hxi⟩) (isFinite_iff.2 ⟨hy, hyi⟩)

theorem mul_comm_operands : mul fmt m x y = mul fmt m y x := by
  have hinv : (isInf x && isZero y || isZero x && isInf y) = (isInf y && isZero x || isZero y && isInf x) := by
    rw [Bool.or_comm, Bool.and_comm (isZero x), Bool.and_comm (isInf x)]
  rw [mul, mul, hinv, bne_comm (a := sign x), Bool.or_comm (isNaN x), Bool.or_comm (isSignaling x),
    Bool.or_comm (isInf x) (isInf y), Bool.or_comm (isZero x) (isZero y), Nat.mul_comm, add_comm (exponent x)]

end

/-- Settles O59: each operation returns the canonical NaN, an operand that is no NaN, or a rounded number. -/
theorem onlyCanonicalNaN : Obligations.OnlyCanonicalNaN := by
  intro fmt m x y z d w signed
  refine ⟨fun r hr => ?_, convert_onlyCanonical (fmt := .double) (x := d) .single,
    convert_onlyCanonical (fmt := .single) (x := w) .double, add_comm_operands, mul_comm_operands⟩
  simp only [List.mem_cons, List.not_mem_nil, or_false] at hr
  obtain rfl | rfl | rfl | rfl | rfl | rfl | rfl | rfl | rfl := hr
  · exact add_onlyCanonical
  · exact add_onlyCanonical
  · exact mul_onlyCanonical
  · exact div_onlyCanonical
  · exact sqrt_onlyCanonical
  · exact fma_onlyCanonical
  · exact choose_onlyCanonical _ _
  · exact choose_onlyCanonical _ _
  · exact cvtIF_onlyCanonical w signed

end Sys2Proof.Machine.Kernel
end
